-- ==== Sys2Proof/Word.lean ====
section
/-! DEFINITION. The two word types of the hardware (00_scope.md R9): 8-bit data, 16-bit addresses. -/

namespace Sys2Proof

/-- A data byte (R9: data width 8 bits). -/
abbrev Byte := BitVec 8

/-- A 16-bit address or pair value (R9); its addition and subtraction are `+16` and `-16` of R12. -/
abbrev Word := BitVec 16

end Sys2Proof
end

