-- ==== Sys2Proof/Machine/Bits.lean ====
section
/-! DEFINITION. The byte and word helpers of 00_scope.md R11 and R12. -/

namespace Sys2Proof

/-- `cat16(h, l)` of R12: high byte `h`, low byte `l`. -/
def cat16 (h l : Byte) : Word := h ++ l

/-- `hi(w)` = w[15:8] (R12). -/
def hi (w : Word) : Byte := w.extractLsb' 8 8

/-- `lo(w)` = w[7:0] (R12). -/
def lo (w : Word) : Byte := w.extractLsb' 0 8

/-- `parity(v)` of R12: true when `v` has an even number of 1 bits. -/
def parity (v : Byte) : Bool :=
  !(v.getLsbD 0 ^^ v.getLsbD 1 ^^ v.getLsbD 2 ^^ v.getLsbD 3
    ^^ v.getLsbD 4 ^^ v.getLsbD 5 ^^ v.getLsbD 6 ^^ v.getLsbD 7)

/-- `v[3:0]` as an unsigned number (R11). -/
def lowNibble (v : Byte) : Nat := v.toNat % 16

end Sys2Proof
end

