-- ==== Sys2Proof/Syntax.lean ====
section
/-! DEFINITION. The instructions as data: operand types, one constructor per mnemonic of
spec/opcode_table.json, and the decoder's output record (30_encoding.md R72). -/

namespace Sys2Proof

/-- A register of the file (10_state.md R21); slot 6 holds no register. -/
inductive Reg where
  | b | c | d | e | h | l | a
  deriving DecidableEq, Repr

/-- A register-or-memory operand (30_encoding.md R77): a register, or `M`, the byte at HL. -/
inductive Operand where
  | reg (r : Reg)
  | mem
  deriving DecidableEq, Repr

/-- The pair selector of LXI, DAD, INX and DCX (30_encoding.md R78). -/
inductive Pair where
  | bc | de | hl | sp
  deriving DecidableEq, Repr

/-- The pair selector of PUSH and POP (30_encoding.md R78). -/
inductive StackPair where
  | bc | de | hl | psw
  deriving DecidableEq, Repr

/-- The pair selector of STAX and LDAX, "only pairs 0 and 1 are valid" (30_encoding.md R78, R83). -/
inductive IndexPair where
  | bc | de
  deriving DecidableEq, Repr

/-- The condition selector (30_encoding.md R86). -/
inductive Cond where
  | nz | z | nc | c | po | pe | p | m
  deriving DecidableEq, Repr

/-- One constructor per mnemonic of spec/opcode_table.json; the operand fields are the constructor's
arguments. -/
inductive Instr where
  /-- `NOP`: R140. -/
  | nop
  /-- `HLT`: R141. -/
  | hlt
  /-- `EI`: R142. -/
  | ei
  /-- `DI`: R143. -/
  | di
  /-- `JMP`: R150. -/
  | jmp (target : Word)
  /-- `JNZ`: R151, not zero. -/
  | jnz (target : Word)
  /-- `JZ`: R151, zero. -/
  | jz (target : Word)
  /-- `JNC`: R151, no carry. -/
  | jnc (target : Word)
  /-- `JC`: R151, carry. -/
  | jc (target : Word)
  /-- `JPO`: R151, parity odd. -/
  | jpo (target : Word)
  /-- `JPE`: R151, parity even. -/
  | jpe (target : Word)
  /-- `JP`: R151, sign positive. -/
  | jp (target : Word)
  /-- `JM`: R151, sign minus. -/
  | jm (target : Word)
  /-- `CALL`: R152. -/
  | call (target : Word)
  /-- `CNZ`: R153, not zero. -/
  | cnz (target : Word)
  /-- `CZ`: R153, zero. -/
  | cz (target : Word)
  /-- `CNC`: R153, no carry. -/
  | cnc (target : Word)
  /-- `CC`: R153, carry. -/
  | cc (target : Word)
  /-- `CPO`: R153, parity odd. -/
  | cpo (target : Word)
  /-- `CPE`: R153, parity even. -/
  | cpe (target : Word)
  /-- `CP`: R153, sign positive. -/
  | cp (target : Word)
  /-- `CM`: R153, sign minus. -/
  | cm (target : Word)
  /-- `RET`: R154. -/
  | ret
  /-- `RNZ`: R155, not zero. -/
  | rnz
  /-- `RZ`: R155, zero. -/
  | rz
  /-- `RNC`: R155, no carry. -/
  | rnc
  /-- `RC`: R155, carry. -/
  | rc
  /-- `RPO`: R155, parity odd. -/
  | rpo
  /-- `RPE`: R155, parity even. -/
  | rpe
  /-- `RP`: R155, sign positive. -/
  | rp
  /-- `RM`: R155, sign minus. -/
  | rm
  /-- `RST`: R156. -/
  | rst (n : BitVec 3)
  /-- `PCHL`: R157. -/
  | pchl
  /-- `PUSH`: R172, R173. -/
  | push (p : StackPair)
  /-- `POP`: R174, R175. -/
  | pop (p : StackPair)
  /-- `XTHL`: R176. -/
  | xthl
  /-- `XCHG`: R177. -/
  | xchg
  /-- `SPHL`: R178. -/
  | sphl
  /-- `RLC`: R185. -/
  | rlc
  /-- `RRC`: R186. -/
  | rrc
  /-- `RAL`: R187. -/
  | ral
  /-- `RAR`: R188. -/
  | rar
  /-- `CMA`: R189. -/
  | cma
  /-- `STC`: R190. -/
  | stc
  /-- `CMC`: R191. -/
  | cmc
  /-- `DAA`: R192. -/
  | daa
  /-- `ADD`: R200, R201. -/
  | add (src : Operand)
  /-- `ADC`: R203, R204. -/
  | adc (src : Operand)
  /-- `SUB`: R206, R207. -/
  | sub (src : Operand)
  /-- `SBB`: R209, R210. -/
  | sbb (src : Operand)
  /-- `ANA`: R212, R213. -/
  | ana (src : Operand)
  /-- `XRA`: R215, R216. -/
  | xra (src : Operand)
  /-- `ORA`: R218, R219. -/
  | ora (src : Operand)
  /-- `CMP`: R221, R222. -/
  | cmp (src : Operand)
  /-- `ADI`: R202. -/
  | adi (imm : Byte)
  /-- `ACI`: R205. -/
  | aci (imm : Byte)
  /-- `SUI`: R208. -/
  | sui (imm : Byte)
  /-- `SBI`: R211. -/
  | sbi (imm : Byte)
  /-- `ANI`: R214. -/
  | ani (imm : Byte)
  /-- `XRI`: R217. -/
  | xri (imm : Byte)
  /-- `ORI`: R220. -/
  | ori (imm : Byte)
  /-- `CPI`: R223. -/
  | cpi (imm : Byte)
  /-- `INR`: R224, R225. -/
  | inr (dst : Operand)
  /-- `DCR`: R226, R227. -/
  | dcr (dst : Operand)
  /-- `LXI`: R230. -/
  | lxi (p : Pair) (imm : Word)
  /-- `DAD`: R231. -/
  | dad (p : Pair)
  /-- `INX`: R232. -/
  | inx (p : Pair)
  /-- `DCX`: R233. -/
  | dcx (p : Pair)
  /-- `MOV`: R240, R241, R242. -/
  | mov (dst src : Operand)
  /-- `MVI`: R243, R244. -/
  | mvi (dst : Operand) (imm : Byte)
  /-- `LDA`: R245. -/
  | lda (addr : Word)
  /-- `STA`: R246. -/
  | sta (addr : Word)
  /-- `LHLD`: R247. -/
  | lhld (addr : Word)
  /-- `SHLD`: R248. -/
  | shld (addr : Word)
  /-- `LDAX`: R249. -/
  | ldax (p : IndexPair)
  /-- `STAX`: R250. -/
  | stax (p : IndexPair)
  /-- `IN`: R260 (`in` is a word of Lean). -/
  | inp (port : Byte)
  /-- `OUT`: R261. -/
  | out (port : Byte)
  /-- `UNRECOGNIZED`: R124; `op` is the opcode byte the diagnostic names. -/
  | unrecognized (op : Byte)
  deriving DecidableEq, Repr

/-- The 72 instruction forms of INDEX.md and `UNRECOGNIZED`: the key of the stall table
(70_reset_and_hazards.md R298) and the `form` of the decoded record (30_encoding.md R72). -/
inductive Form where
  /-- `NOP` -/
  | nop
  /-- `HLT` -/
  | hlt
  /-- `EI` -/
  | ei
  /-- `DI` -/
  | di
  /-- `JMP a16` -/
  | jmp
  /-- `Jcc a16` -/
  | jcc
  /-- `CALL a16` -/
  | call
  /-- `Ccc a16` -/
  | ccc
  /-- `RET` -/
  | ret
  /-- `Rcc` -/
  | rcc
  /-- `RST n` -/
  | rst
  /-- `PCHL` -/
  | pchl
  /-- `PUSH rp` -/
  | pushRp
  /-- `PUSH PSW` -/
  | pushPsw
  /-- `POP rp` -/
  | popRp
  /-- `POP PSW` -/
  | popPsw
  /-- `XTHL` -/
  | xthl
  /-- `XCHG` -/
  | xchg
  /-- `SPHL` -/
  | sphl
  /-- `RLC` -/
  | rlc
  /-- `RRC` -/
  | rrc
  /-- `RAL` -/
  | ral
  /-- `RAR` -/
  | rar
  /-- `CMA` -/
  | cma
  /-- `STC` -/
  | stc
  /-- `CMC` -/
  | cmc
  /-- `DAA` -/
  | daa
  /-- `ADD r` -/
  | addR
  /-- `ADD M` -/
  | addM
  /-- `ADI d8` -/
  | adi
  /-- `ADC r` -/
  | adcR
  /-- `ADC M` -/
  | adcM
  /-- `ACI d8` -/
  | aci
  /-- `SUB r` -/
  | subR
  /-- `SUB M` -/
  | subM
  /-- `SUI d8` -/
  | sui
  /-- `SBB r` -/
  | sbbR
  /-- `SBB M` -/
  | sbbM
  /-- `SBI d8` -/
  | sbi
  /-- `ANA r` -/
  | anaR
  /-- `ANA M` -/
  | anaM
  /-- `ANI d8` -/
  | ani
  /-- `XRA r` -/
  | xraR
  /-- `XRA M` -/
  | xraM
  /-- `XRI d8` -/
  | xri
  /-- `ORA r` -/
  | oraR
  /-- `ORA M` -/
  | oraM
  /-- `ORI d8` -/
  | ori
  /-- `CMP r` -/
  | cmpR
  /-- `CMP M` -/
  | cmpM
  /-- `CPI d8` -/
  | cpi
  /-- `INR r` -/
  | inrR
  /-- `INR M` -/
  | inrM
  /-- `DCR r` -/
  | dcrR
  /-- `DCR M` -/
  | dcrM
  /-- `LXI rp,d16` -/
  | lxi
  /-- `DAD rp` -/
  | dad
  /-- `INX rp` -/
  | inx
  /-- `DCX rp` -/
  | dcx
  /-- `MOV r1,r2` -/
  | movRR
  /-- `MOV r,M` -/
  | movRM
  /-- `MOV M,r` -/
  | movMR
  /-- `MVI r,d8` -/
  | mviR
  /-- `MVI M,d8` -/
  | mviM
  /-- `LDA a16` -/
  | lda
  /-- `STA a16` -/
  | sta
  /-- `LHLD a16` -/
  | lhld
  /-- `SHLD a16` -/
  | shld
  /-- `LDAX rp` -/
  | ldax
  /-- `STAX rp` -/
  | stax
  /-- `IN p8` -/
  | inp
  /-- `OUT p8` -/
  | out
  /-- `UNRECOGNIZED` -/
  | unrecognized
  deriving DecidableEq, Repr

/-- The 24 masked families, in the order of 30_encoding.md R81. -/
inductive Family where
  | push | pop | rst | rcc | ccc | jcc | cmp | ora | xra | ana | dad | inx
  | dcx | inr | dcr | sub | sbb | add | adc | stax | ldax | lxi | mvi | mov
  deriving DecidableEq, Repr

/-- Which stage of the match resolved the byte (30_encoding.md R72, R79, R81, R84). -/
inductive Stage where
  | exact
  | masked (family : Family)
  | unmatched
  deriving DecidableEq, Repr

/-- The operand fields of the opcode byte (30_encoding.md R71); a field the form lacks is `none`. -/
structure Fields where
  ddd : Option (BitVec 3)
  sss : Option (BitVec 3)
  rp  : Option (BitVec 2)
  ccc : Option (BitVec 3)
  nnn : Option (BitVec 3)
  deriving DecidableEq, Repr

/-- The decoder's output record (30_encoding.md R72). `instr` is the form with its operands as typed
data, what the execution engine consumes; the other fields are those the rule lists. -/
structure DecodedInstruction where
  opcode : Byte
  instr  : Instr
  form   : Form
  stage  : Stage
  length : Nat
  fields : Fields
  imm8   : Option Byte
  imm16  : Option Word
  deriving DecidableEq, Repr

end Sys2Proof
end

