-- ==== Sys2Proof/Config.lean ====
section
/-! DEFINITION. The parameters of 00_scope.md R10, and the free values the spec calls draws. -/

namespace Sys2Proof

/-- `FLAG_MODEL` (92_eei_decisions.md D2). -/
inductive FlagModel where
  /-- Five flags with Intel 8080 semantics, the default (40_execution_engine.md R115 to R118). -/
  | intel8080
  /-- No flag state: every flag read and every condition is a draw (40_execution_engine.md R119). -/
  | unmodelled
  deriving DecidableEq, Repr

/-- One row of a replacement for the default stall table (70_reset_and_hazards.md R298: "any function
of the form and of `taken`"). -/
structure StallRow where
  form  : Form
  taken : Bool
  stall : Nat
  deriving DecidableEq, Repr

/-- The parameters a model takes as arguments (00_scope.md R10), fixed during a run. DESIGN CHOICE
(log 1), safe: they stand in the state, since a step has no other argument. -/
structure Params where
  /-- `FLAG_MODEL` (D2). -/
  flagModel   : FlagModel
  /-- `DECODE_EXTRA` (D1; 30_encoding.md R85). -/
  decodeExtra : Bool
  /-- `START_PC` (D8; 70_reset_and_hazards.md R291). -/
  startPc     : Word
  /-- `STALL_TABLE` as what it changes of the default table (D5; log 12): the first row for a form
  and `taken` wins, and where no row stands the default value holds. -/
  stallRows   : List StallRow
  deriving DecidableEq, Repr

/-- The spec's defaults (00_scope.md R10). -/
def Params.default : Params :=
  { flagModel := .intel8080, decodeExtra := true, startPc := 0x0000, stallRows := [] }

/-- What an address with no entry in the memory list reads as. DESIGN CHOICE (log 4), unsafe: the spec
leaves INIT_MEM open (70_reset_and_hazards.md R292). -/
def Config.unlistedByte : Byte := 0x00

/-- The n-th draw of a bit (00_scope.md R13; 40_execution_engine.md R119), a free value (log 5). -/
opaque Config.drawBit : Nat → Bool

/-- The n-th draw of a byte: the low byte PUSH PSW pushes under `FLAG_MODEL = unmodelled`
(40_execution_engine.md R119), a free value (log 5). -/
opaque Config.drawByte : Nat → Byte

/-- `IO_IN`: the environment's answer to a read of a port, at the n-th draw (48_io.md R260, R262), a
free value (log 6). -/
opaque Config.ioIn : Nat → Byte → Byte

end Sys2Proof
end

