-- ==== Sys2Proof/Machine/State.lean ====
section
/-! DEFINITION. The machine state (10_state.md R20) as plain data, the reasons a step can stop, and
the state after reset (70_reset_and_hazards.md R290). -/

namespace Sys2Proof.Machine

/-- The register file (10_state.md R21): slots 0 to 5 and 7; slot 6 holds no register. -/
structure Regs where
  b : Byte
  c : Byte
  d : Byte
  e : Byte
  h : Byte
  l : Byte
  a : Byte
  deriving DecidableEq, Repr

/-- The five flags (10_state.md R26). -/
structure Flags where
  s  : Bool
  z  : Bool
  ac : Bool
  p  : Bool
  cy : Bool
  deriving DecidableEq, Repr

/-- Memory (10_state.md R31) as its cells, in the canonical form `Memory.wf`: addresses strictly
rising, none past the address space, no entry equal to what an unlisted address reads as. -/
abbrev Memory := List Host.Cell

/-- The canonical form of a memory. -/
abbrev Memory.wf (m : Memory) : Prop :=
  m.Pairwise (fun x y => x.1 < y.1) ∧ ∀ c ∈ m, c.1 < 65536 ∧ c.2 ≠ Config.unlistedByte

/-- The diagnostic `Unrecognized(opcode, pc)` (60_exceptions.md R271). -/
structure Diagnostic where
  opcode : Byte
  pc     : Word
  deriving DecidableEq, Repr

/-- An event of the port interface (48_io.md R262): a port read with the environment's answer, or the
port write `IoWrite` (60_exceptions.md R276). -/
inductive IoEvent where
  | read  (port answer : Byte)
  | write (port value : Byte)
  deriving DecidableEq, Repr

/-- What a byte access of the event history does (20_memory.md R66). -/
inductive AccessKind where
  | fetch | load | store
  deriving DecidableEq, Repr

/-- A byte access of the event history (20_memory.md R66): its address and the byte read or written. -/
structure Access where
  kind  : AccessKind
  addr  : Word
  value : Byte
  deriving DecidableEq, Repr

/-- The trace record of an executed instruction (60_exceptions.md R275). -/
structure TraceRecord where
  pc      : Word
  bytes   : List Byte
  decoded : DecodedInstruction
  ea      : Option Word
  taken   : Option Bool
  diag    : Option Diagnostic
  deriving DecidableEq, Repr

/-- The machine state. The first eight fields are `MachineState` (10_state.md R20); `trace`, `diags`,
`io` and `accesses` are the records a run emits (60_exceptions.md R271, R275, R276; 20_memory.md R66),
kept as append-only logs (log 10); `params` are the parameters (00_scope.md R10; log 1); `draws` is the
model's own counter of draws (log 5). -/
structure State where
  regs     : Regs
  sp       : Word
  pc       : Word
  mem      : Memory
  stall    : Nat
  flags    : Flags
  inte     : Bool
  halted   : Bool
  params   : Params
  draws    : Nat
  trace    : List TraceRecord
  diags    : List Diagnostic
  io       : List IoEvent
  accesses : List Access
  deriving DecidableEq, Repr

/-- The reasons a machine stops with a fault: none. "No instruction faults" (40_execution_engine.md
R122) and "fault: none" (60_exceptions.md R282), so the type has no constructor (log 9). Safe. -/
inductive Fault where
  deriving DecidableEq, Repr

/-- The reasons a step answers no next state. -/
inductive Refusal where
  /-- Raised by an arm of `exec` whose instruction has no meaning yet; no arm raises it. Safe. -/
  | notModelled (mnemonic : String)
  /-- Raised by `step` alone, in a halted state: "If `halted = 1` the block has no step (the run is
  over)" (40_execution_engine.md R110). No instruction raises it. Safe (log 8). -/
  | runEnded
  deriving DecidableEq, Repr

/-- What a meaning or a step answers. -/
abbrev Answer := Host.Outcome State Fault Refusal

/-- Creation of the machine state (70_reset_and_hazards.md R290) with the open reset values as
arguments (R292): INIT_REGS, INIT_FLAGS, and memory as the loader and INIT_MEM leave it (R293). -/
def State.powerOn (params : Params) (initRegs : Regs) (initFlags : Flags) (initMem : Memory) : State :=
  { regs := initRegs
    sp := 0xFFFF
    pc := params.startPc
    mem := initMem
    stall := 0
    flags := initFlags
    inte := false
    halted := false
    params := params
    draws := 0
    trace := []
    diags := []
    io := []
    accesses := [] }

/-- INIT_REGS in `State.reset`. DESIGN CHOICE (log 2), unsafe: the spec leaves them open (R292). -/
def Regs.zero : Regs := { b := 0, c := 0, d := 0, e := 0, h := 0, l := 0, a := 0 }

/-- INIT_FLAGS in `State.reset`. DESIGN CHOICE (log 3), unsafe: the spec leaves them open (R292). -/
def Flags.zero : Flags := { s := false, z := false, ac := false, p := false, cy := false }

/-- The state right after reset (R290), with the default parameters and nothing loaded. -/
def State.reset : State := State.powerOn Params.default Regs.zero Flags.zero []

end Sys2Proof.Machine
end

