-- ==== Sys2Proof/Machine/Ops.lean ====
section
/-! DEFINITION. The operations over memory, registers, stack, program counter and records that the
instruction rules share. This hardware takes no exception (60_exceptions.md R274): the one report it
makes is the diagnostic of an unrecognized opcode, `State.report` (R271). -/

namespace Sys2Proof.Machine

/-! ## Memory -/

/-- The byte at an address (20_memory.md R51, R58): the last byte written there, or its reset value. -/
def Memory.read : Memory → Nat → Byte
  | [], _ => Config.unlistedByte
  | (k, x) :: rest, a => if k = a then x else Memory.read rest a

/-- The cells but those at an address. -/
def Memory.erase (m : Memory) (a : Nat) : Memory := m.filter (fun c => c.1 != a)

/-- A cell put before the first cell of a higher address. -/
def Memory.insert : Memory → Nat → Byte → Memory
  | [], a, v => [(a, v)]
  | (k, x) :: rest, a, v => if a < k then (a, v) :: (k, x) :: rest else (k, x) :: Memory.insert rest a v

/-- A byte written at an address (20_memory.md R52). It keeps the canonical form: a byte equal to what
an unlisted address reads as leaves no cell. -/
def Memory.write (m : Memory) (a : Nat) (v : Byte) : Memory :=
  if v = Config.unlistedByte then m.erase a else (m.erase a).insert a v

/-- `MemRead(addr, 1)` (20_memory.md R51). -/
def State.readByte (s : State) (addr : Word) : Byte := s.mem.read addr.toNat

/-- `MemRead(addr, 2)` (20_memory.md R51): the byte at addr is the low byte. -/
def State.readWord (s : State) (addr : Word) : Word := cat16 (s.readByte (addr + 1)) (s.readByte addr)

/-- `MemWrite(addr, 1, v)` (20_memory.md R52). -/
def State.writeByte (s : State) (addr : Word) (v : Byte) : State :=
  { s with mem := s.mem.write addr.toNat v }

/-- `MemWrite(addr, 2, w)` (20_memory.md R52): low byte first, at the lower address. -/
def State.writeWord (s : State) (addr : Word) (w : Word) : State :=
  (s.writeByte addr (lo w)).writeByte (addr + 1) (hi w)

/-- The loader's bytes from an address on; bytes past 65536 are not loaded (70_reset_and_hazards.md
R293). -/
def Memory.loadFrom (m : Memory) (a : Nat) : List Byte → Memory
  | [] => m
  | b :: rest => if a < 65536 then (m.write a b).loadFrom (a + 1) rest else m

/-- The program buffer placed from address 0 on (70_reset_and_hazards.md R293). Loading is not a step
and emits no record (log 13). -/
def State.load (s : State) (buffer : List Byte) : State := { s with mem := s.mem.loadFrom 0 buffer }

/-! ## Registers -/

/-- `reg[i]` (10_state.md R21). -/
def Regs.get (g : Regs) : Reg → Byte
  | .b => g.b | .c => g.c | .d => g.d | .e => g.e | .h => g.h | .l => g.l | .a => g.a

/-- `reg[i] <- v` (10_state.md R21). -/
def Regs.set (g : Regs) (r : Reg) (v : Byte) : Regs :=
  match r with
  | .b => { g with b := v } | .c => { g with c := v } | .d => { g with d := v }
  | .e => { g with e := v } | .h => { g with h := v } | .l => { g with l := v }
  | .a => { g with a := v }

/-- `BC` (10_state.md R23): high byte in the lower-indexed slot. -/
def Regs.bc (g : Regs) : Word := cat16 g.b g.c

/-- `DE` (10_state.md R23). -/
def Regs.de (g : Regs) : Word := cat16 g.d g.e

/-- `HL` (10_state.md R23). -/
def Regs.hl (g : Regs) : Word := cat16 g.h g.l

/-- `BC <- w` (10_state.md R23). -/
def Regs.setBC (g : Regs) (w : Word) : Regs := { g with b := hi w, c := lo w }

/-- `DE <- w` (10_state.md R23). -/
def Regs.setDE (g : Regs) (w : Word) : Regs := { g with d := hi w, e := lo w }

/-- `HL <- w` (10_state.md R23). -/
def Regs.setHL (g : Regs) (w : Word) : Regs := { g with h := hi w, l := lo w }

/-- `reg[i] <- v` in the state. -/
def State.setReg (s : State) (r : Reg) (v : Byte) : State := { s with regs := s.regs.set r v }

/-- `SP <- w` (10_state.md R24). -/
def State.setSp (s : State) (w : Word) : State := { s with sp := w }

/-! ## Program counter -/

/-- `pc <- pc +16 n` for an instruction of `n` bytes (40_execution_engine.md R112). -/
def State.advance (s : State) (n : Word) : State := { s with pc := s.pc + n }

/-- `pc <- target` (40_execution_engine.md R112). -/
def State.jump (s : State) (target : Word) : State := { s with pc := target }

/-! ## Stack -/

/-- `push16(w)` (43_stack_exchange.md R170): SP down by 2, then the low byte at the new SP and the
high byte at SP+1. -/
def State.push16 (s : State) (w : Word) : State := (s.setSp (s.sp - 2)).writeWord (s.sp - 2) w

/-- The value `pop16()` returns (43_stack_exchange.md R170): the byte at SP is the low byte. -/
def State.stackTop (s : State) : Word := s.readWord s.sp

/-- What `pop16()` leaves (43_stack_exchange.md R170): SP up by 2. -/
def State.dropTop (s : State) : State := s.setSp (s.sp + 2)

/-! ## Control bits and records -/

/-- `INTE <- v` (10_state.md R28). -/
def State.setInte (s : State) (v : Bool) : State := { s with inte := v }

/-- `halted <- 1` (10_state.md R29). -/
def State.halt (s : State) : State := { s with halted := true }

/-- `report Unrecognized(op, pc)` (00_scope.md R13; 60_exceptions.md R271): appended to the diagnostic
log, nothing else. -/
def State.report (s : State) (op : Byte) : State :=
  { s with diags := s.diags ++ [{ opcode := op, pc := s.pc }] }

/-- A port event, in step order (48_io.md R262). -/
def State.emitIo (s : State) (e : IoEvent) : State := { s with io := s.io ++ [e] }

/-- The port writes of a run, in step order (60_exceptions.md R276): port and value. -/
def State.portWrites (s : State) : List (Byte × Byte) :=
  s.io.filterMap (fun e => match e with | .write port value => some (port, value) | .read _ _ => none)

/-- `n` draws taken (00_scope.md R13; log 5). -/
def State.drawn (s : State) (n : Nat) : State := { s with draws := s.draws + n }

end Sys2Proof.Machine
end

