-- ==== Sys2Proof/Machine/Flags.lean ====
section
/-! DEFINITION. The flag computations: the ALU helpers (40_execution_engine.md R115 to R117), the
condition test (R118), DAA, the flag byte, and how FLAG_MODEL reads and writes flags (R119). -/

namespace Sys2Proof.Machine

/-- A byte result with the flags it sets. -/
structure AluResult where
  value : Byte
  flags : Flags
  deriving DecidableEq, Repr

/-- `szp(v)` (00_scope.md R14): S, Z and P from a result, AC and CY kept. -/
def Flags.szp (f : Flags) (v : Byte) : Flags :=
  { f with s := v.getLsbD 7, z := v == 0, p := parity v }

/-- `add8(a, b, cin)` (40_execution_engine.md R115). -/
def add8 (a b : Byte) (cin : Bool) : AluResult :=
  let t := a.toNat + b.toNat + cin.toNat
  let r := BitVec.ofNat 8 t
  { value := r
    flags :=
      { s := r.getLsbD 7
        z := r == 0
        ac := decide (15 < lowNibble a + lowNibble b + cin.toNat)
        p := parity r
        cy := t.testBit 8 } }

/-- `sub8(a, b, bin)` (40_execution_engine.md R116): a + ~b + (1 − bin); CY is the borrow, AC the carry
out of bit 3. -/
def sub8 (a b : Byte) (bin : Bool) : AluResult :=
  let t := a.toNat + (~~~b).toNat + (!bin).toNat
  let r := BitVec.ofNat 8 t
  { value := r
    flags :=
      { s := r.getLsbD 7
        z := r == 0
        ac := decide (15 < lowNibble a + lowNibble (~~~b) + (!bin).toNat)
        p := parity r
        cy := !t.testBit 8 } }

/-- The flags of a logic result: CY clear, AC as given (40_execution_engine.md R117). -/
def logicFlags (r : Byte) (ac : Bool) : Flags :=
  { s := r.getLsbD 7, z := r == 0, ac := ac, p := parity r, cy := false }

/-- `and8(a, b)` (40_execution_engine.md R117): AC is bit 3 of a OR b. -/
def and8 (a b : Byte) : AluResult :=
  { value := a &&& b, flags := logicFlags (a &&& b) ((a ||| b).getLsbD 3) }

/-- `xor8(a, b)` (40_execution_engine.md R117). -/
def xor8 (a b : Byte) : AluResult := { value := a ^^^ b, flags := logicFlags (a ^^^ b) false }

/-- `or8(a, b)` (40_execution_engine.md R117). -/
def or8 (a b : Byte) : AluResult := { value := a ||| b, flags := logicFlags (a ||| b) false }

/-- INR of a byte (45_alu.md R224): CY kept. -/
def inc8 (f : Flags) (v : Byte) : AluResult :=
  { value := v + 1, flags := { f.szp (v + 1) with ac := lowNibble v == 15 } }

/-- DCR of a byte (45_alu.md R226): CY kept, AC the carry out of bit 3 of v + 0xFF. -/
def dec8 (f : Flags) (v : Byte) : AluResult :=
  { value := v - 1, flags := { f.szp (v - 1) with ac := lowNibble v != 0 } }

/-- DAA (44_rotate_carry.md R192): the correction, from A, AC and CY. -/
def daaCorrection (a : Byte) (ac cy : Bool) : Byte :=
  (if 9 < lowNibble a || ac then 0x06 else 0x00) ||| (if 0x99 < a.toNat || cy then 0x60 else 0x00)

/-- DAA (44_rotate_carry.md R192): CY is set or left, never cleared. -/
def daa8 (a : Byte) (ac cy : Bool) : AluResult :=
  let corr := daaCorrection a ac cy
  let r := a + corr
  { value := r
    flags :=
      { s := r.getLsbD 7
        z := r == 0
        ac := decide (15 < lowNibble a + lowNibble corr)
        p := parity r
        cy := decide (0x99 < a.toNat) || cy } }

/-- A rotated byte and the bit shifted out. -/
structure RotateResult where
  value : Byte
  carry : Bool
  deriving DecidableEq, Repr

/-- A bit at position `n` of a byte. -/
def bitAt (b : Bool) (n : Nat) : Byte := (BitVec.ofBool b).setWidth 8 <<< n

/-- A byte shifted left by one, with the bit that enters at bit 0 (44_rotate_carry.md R185, R187). -/
def shiftIntoLow (a : Byte) (b : Bool) : RotateResult :=
  { value := (a <<< 1) ||| bitAt b 0, carry := a.getLsbD 7 }

/-- A byte shifted right by one, with the bit that enters at bit 7 (44_rotate_carry.md R186, R188). -/
def shiftIntoHigh (a : Byte) (b : Bool) : RotateResult :=
  { value := (a >>> 1) ||| bitAt b 7, carry := a.getLsbD 0 }

/-- `cond(c)` on the flags (40_execution_engine.md R118). -/
def condTest (cc : Cond) (f : Flags) : Bool :=
  match cc with
  | .nz => !f.z | .z => f.z | .nc => !f.cy | .c => f.cy
  | .po => !f.p | .pe => f.p | .p => !f.s | .m => f.s

/-- The flag byte of PSW (43_stack_exchange.md R171): S Z 0 AC 0 P 1 CY. -/
def Flags.toByte (f : Flags) : Byte :=
  bitAt f.s 7 ||| bitAt f.z 6 ||| bitAt f.ac 4 ||| bitAt f.p 2 ||| 0x02 ||| bitAt f.cy 0

/-- The flags POP PSW takes from the low byte (43_stack_exchange.md R175); bits 5, 3, 1 are dropped. -/
def Flags.ofByte (v : Byte) : Flags :=
  { s := v.getLsbD 7, z := v.getLsbD 6, ac := v.getLsbD 4, p := v.getLsbD 2, cy := v.getLsbD 0 }

/-! ## FLAG_MODEL -/

/-- Flags written (40_execution_engine.md R119: under `unmodelled` "every flag write in an instruction
rule is omitted"; log 7). -/
def State.setFlags (s : State) (f : Flags) : State :=
  { s with
    flags := match s.params.flagModel with
      | .intel8080 => f
      | .unmodelled => s.flags }

/-- What reading a bit of the flags yields, a flag or a condition (40_execution_engine.md R118, R119):
under `unmodelled` the draw that is `k` draws ahead. -/
def State.flagBit (s : State) (k : Nat) (get : Flags → Bool) : Bool :=
  match s.params.flagModel with
  | .intel8080 => get s.flags
  | .unmodelled => Config.drawBit (s.draws + k)

/-- What reading `n` bits or bytes of the flags leaves: `n` draws taken under `unmodelled` (R119). -/
def State.flagsRead (s : State) (n : Nat) : State :=
  { s with
    draws := match s.params.flagModel with
      | .intel8080 => s.draws
      | .unmodelled => s.draws + n }

/-- CY as an instruction reads it. -/
def State.carry (s : State) : Bool := s.flagBit 0 (fun f => f.cy)

/-- `cond(c)` (40_execution_engine.md R118, R119). -/
def State.holds (s : State) (cc : Cond) : Bool := s.flagBit 0 (condTest cc)

/-- The low byte PUSH PSW pushes (43_stack_exchange.md R171, R173; 40_execution_engine.md R119). -/
def State.flagByte (s : State) : Byte :=
  match s.params.flagModel with
  | .intel8080 => s.flags.toByte
  | .unmodelled => Config.drawByte s.draws

/-- CY alone written (10_state.md R26). -/
def State.setCarry (s : State) (v : Bool) : State := s.setFlags { s.flags with cy := v }

end Sys2Proof.Machine
end

