-- ==== Sys2Proof/Machine/Operands.lean ====
section
/-! DEFINITION. The operand forms: register or memory (40_execution_engine.md R113), register pairs
(R114). -/

namespace Sys2Proof.Machine

/-- `opnd(s)` (40_execution_engine.md R113): a register, or the byte at HL. -/
def State.operand (s : State) : Operand → Byte
  | .reg r => s.regs.get r
  | .mem => s.readByte s.regs.hl

/-- `opnd(s) <- v` (40_execution_engine.md R113). -/
def State.setOperand (s : State) (dst : Operand) (v : Byte) : State :=
  match dst with
  | .reg r => s.setReg r v
  | .mem => s.writeByte s.regs.hl v

/-- `pair(p)` (40_execution_engine.md R114). -/
def State.pair (s : State) : Pair → Word
  | .bc => s.regs.bc
  | .de => s.regs.de
  | .hl => s.regs.hl
  | .sp => s.sp

/-- `pair(p) <- w` (40_execution_engine.md R114; 46_register_pair.md R234: both registers at once). -/
def State.setPair (s : State) (p : Pair) (w : Word) : State :=
  match p with
  | .bc => { s with regs := s.regs.setBC w }
  | .de => { s with regs := s.regs.setDE w }
  | .hl => { s with regs := s.regs.setHL w }
  | .sp => s.setSp w

/-- The address of STAX and LDAX: BC or DE (40_execution_engine.md R114). -/
def State.indexAddr (s : State) : IndexPair → Word
  | .bc => s.regs.bc
  | .de => s.regs.de

end Sys2Proof.Machine
end

