-- ==== Sys2Proof/Machine/Alu.lean ====
section
/-! DEFINITION. 8-bit arithmetic and logic (45_alu.md R200 to R227). -/

namespace Sys2Proof.Machine

/-! ## Shared operations -/

/-- An ALU result into A and the flags, for an instruction of `n` bytes. -/
def State.accumulate (s : State) (r : AluResult) (n : Word) : State :=
  ((s.setReg .a r.value).setFlags r.flags).advance n

/-- An ALU result's flags alone, its value discarded (R221). -/
def State.compared (s : State) (r : AluResult) (n : Word) : State := (s.setFlags r.flags).advance n

/-- A result back into the operand it came from, with its flags (R224 to R227). -/
def State.updated (s : State) (dst : Operand) (r : AluResult) : State :=
  ((s.setOperand dst r.value).setFlags r.flags).advance 1

/-! ## Meanings -/

/-- `ADD r` (R200) and `ADD M` (R201). -/
def execAdd (src : Operand) (s : State) : Answer :=
  .next (s.accumulate (add8 s.regs.a (s.operand src) false) 1)

/-- `ADC r` (R203) and `ADC M` (R204). -/
def execAdc (src : Operand) (s : State) : Answer :=
  .next ((s.flagsRead 1).accumulate (add8 s.regs.a (s.operand src) s.carry) 1)

/-- `SUB r` (R206) and `SUB M` (R207). -/
def execSub (src : Operand) (s : State) : Answer :=
  .next (s.accumulate (sub8 s.regs.a (s.operand src) false) 1)

/-- `SBB r` (R209) and `SBB M` (R210). -/
def execSbb (src : Operand) (s : State) : Answer :=
  .next ((s.flagsRead 1).accumulate (sub8 s.regs.a (s.operand src) s.carry) 1)

/-- `ANA r` (R212) and `ANA M` (R213). -/
def execAna (src : Operand) (s : State) : Answer :=
  .next (s.accumulate (and8 s.regs.a (s.operand src)) 1)

/-- `XRA r` (R215) and `XRA M` (R216). -/
def execXra (src : Operand) (s : State) : Answer :=
  .next (s.accumulate (xor8 s.regs.a (s.operand src)) 1)

/-- `ORA r` (R218) and `ORA M` (R219). -/
def execOra (src : Operand) (s : State) : Answer :=
  .next (s.accumulate (or8 s.regs.a (s.operand src)) 1)

/-- `CMP r` (R221) and `CMP M` (R222). -/
def execCmp (src : Operand) (s : State) : Answer :=
  .next (s.compared (sub8 s.regs.a (s.operand src) false) 1)

/-- `ADI d8` (R202). -/
def execAdi (imm : Byte) (s : State) : Answer := .next (s.accumulate (add8 s.regs.a imm false) 2)

/-- `ACI d8` (R205). -/
def execAci (imm : Byte) (s : State) : Answer := .next ((s.flagsRead 1).accumulate (add8 s.regs.a imm s.carry) 2)

/-- `SUI d8` (R208). -/
def execSui (imm : Byte) (s : State) : Answer := .next (s.accumulate (sub8 s.regs.a imm false) 2)

/-- `SBI d8` (R211). -/
def execSbi (imm : Byte) (s : State) : Answer := .next ((s.flagsRead 1).accumulate (sub8 s.regs.a imm s.carry) 2)

/-- `ANI d8` (R214). -/
def execAni (imm : Byte) (s : State) : Answer := .next (s.accumulate (and8 s.regs.a imm) 2)

/-- `XRI d8` (R217). -/
def execXri (imm : Byte) (s : State) : Answer := .next (s.accumulate (xor8 s.regs.a imm) 2)

/-- `ORI d8` (R220). -/
def execOri (imm : Byte) (s : State) : Answer := .next (s.accumulate (or8 s.regs.a imm) 2)

/-- `CPI d8` (R223). -/
def execCpi (imm : Byte) (s : State) : Answer := .next (s.compared (sub8 s.regs.a imm false) 2)

/-- `INR r` (R224) and `INR M` (R225): CY kept. -/
def execInr (dst : Operand) (s : State) : Answer := .next (s.updated dst (inc8 s.flags (s.operand dst)))

/-- `DCR r` (R226) and `DCR M` (R227): CY kept. -/
def execDcr (dst : Operand) (s : State) : Answer := .next (s.updated dst (dec8 s.flags (s.operand dst)))

end Sys2Proof.Machine
end

