-- ==== Sys2Proof/Machine/ControlTransfer.lean ====
section
/-! DEFINITION. Control transfer (42_control_transfer.md R150 to R157). -/

namespace Sys2Proof.Machine

/-! ## Shared operations -/

/-- A conditional jump (R151): both outcomes consume three bytes. -/
def State.jumpIf (s : State) (cc : Cond) (target : Word) : State :=
  if s.holds cc then (s.flagsRead 1).jump target else (s.flagsRead 1).advance 3

/-- A call (R152): the address after the three bytes is pushed. -/
def State.callTo (s : State) (target : Word) : State := (s.push16 (s.pc + 3)).jump target

/-- A conditional call (R153): when not taken, SP and memory stay. -/
def State.callIf (s : State) (cc : Cond) (target : Word) : State :=
  if s.holds cc then (s.flagsRead 1).callTo target else (s.flagsRead 1).advance 3

/-- A return (R154). -/
def State.returnNow (s : State) : State := s.dropTop.jump s.stackTop

/-- A conditional return (R155): when not taken, SP and memory stay. -/
def State.returnIf (s : State) (cc : Cond) : State :=
  if s.holds cc then (s.flagsRead 1).returnNow else (s.flagsRead 1).advance 1

/-- The restart target nnn × 8 (30_encoding.md R87). -/
def restartTarget (n : BitVec 3) : Word := n.setWidth 16 <<< 3

/-! ## Meanings -/

/-- `JMP a16` (R150). -/
def execJmp (target : Word) (s : State) : Answer := .next (s.jump target)

/-- `JNZ a16` (R151). -/
def execJnz (target : Word) (s : State) : Answer := .next (s.jumpIf .nz target)

/-- `JZ a16` (R151). -/
def execJz (target : Word) (s : State) : Answer := .next (s.jumpIf .z target)

/-- `JNC a16` (R151). -/
def execJnc (target : Word) (s : State) : Answer := .next (s.jumpIf .nc target)

/-- `JC a16` (R151). -/
def execJc (target : Word) (s : State) : Answer := .next (s.jumpIf .c target)

/-- `JPO a16` (R151). -/
def execJpo (target : Word) (s : State) : Answer := .next (s.jumpIf .po target)

/-- `JPE a16` (R151). -/
def execJpe (target : Word) (s : State) : Answer := .next (s.jumpIf .pe target)

/-- `JP a16` (R151). -/
def execJp (target : Word) (s : State) : Answer := .next (s.jumpIf .p target)

/-- `JM a16` (R151). -/
def execJm (target : Word) (s : State) : Answer := .next (s.jumpIf .m target)

/-- `CALL a16` (R152). -/
def execCall (target : Word) (s : State) : Answer := .next (s.callTo target)

/-- `CNZ a16` (R153). -/
def execCnz (target : Word) (s : State) : Answer := .next (s.callIf .nz target)

/-- `CZ a16` (R153). -/
def execCz (target : Word) (s : State) : Answer := .next (s.callIf .z target)

/-- `CNC a16` (R153). -/
def execCnc (target : Word) (s : State) : Answer := .next (s.callIf .nc target)

/-- `CC a16` (R153). -/
def execCc (target : Word) (s : State) : Answer := .next (s.callIf .c target)

/-- `CPO a16` (R153). -/
def execCpo (target : Word) (s : State) : Answer := .next (s.callIf .po target)

/-- `CPE a16` (R153). -/
def execCpe (target : Word) (s : State) : Answer := .next (s.callIf .pe target)

/-- `CP a16` (R153). -/
def execCp (target : Word) (s : State) : Answer := .next (s.callIf .p target)

/-- `CM a16` (R153). -/
def execCm (target : Word) (s : State) : Answer := .next (s.callIf .m target)

/-- `RET` (R154). -/
def execRet (s : State) : Answer := .next s.returnNow

/-- `RNZ` (R155). -/
def execRnz (s : State) : Answer := .next (s.returnIf .nz)

/-- `RZ` (R155). -/
def execRz (s : State) : Answer := .next (s.returnIf .z)

/-- `RNC` (R155). -/
def execRnc (s : State) : Answer := .next (s.returnIf .nc)

/-- `RC` (R155). -/
def execRc (s : State) : Answer := .next (s.returnIf .c)

/-- `RPO` (R155). -/
def execRpo (s : State) : Answer := .next (s.returnIf .po)

/-- `RPE` (R155). -/
def execRpe (s : State) : Answer := .next (s.returnIf .pe)

/-- `RP` (R155). -/
def execRp (s : State) : Answer := .next (s.returnIf .p)

/-- `RM` (R155). -/
def execRm (s : State) : Answer := .next (s.returnIf .m)

/-- `RST n` (R156): an ordinary call to a fixed address. -/
def execRst (n : BitVec 3) (s : State) : Answer := .next ((s.push16 (s.pc + 1)).jump (restartTarget n))

/-- `PCHL` (R157). -/
def execPchl (s : State) : Answer := .next (s.jump s.regs.hl)

end Sys2Proof.Machine
end

