-- ==== Sys2Proof/Machine/Io.lean ====
section
/-! DEFINITION. Port input and output (48_io.md R260, R261). No port has a behaviour of its own
(R263). -/

namespace Sys2Proof.Machine

/-- `IN p8` (R260): A is the environment's answer, a draw (R262; log 6). -/
def execInp (port : Byte) (s : State) : Answer :=
  let answer := Config.ioIn s.draws port
  .next ((((s.drawn 1).emitIo (.read port answer)).setReg .a answer).advance 2)

/-- `OUT p8` (R261): the port write is emitted, and no state of the block changes but pc. -/
def execOut (port : Byte) (s : State) : Answer := .next ((s.emitIo (.write port s.regs.a)).advance 2)

end Sys2Proof.Machine
end

