-- ==== Sys2Proof/Machine/LoadStore.lean ====
section
/-! DEFINITION. Data transfer (47_load_store.md R240 to R250). No instruction here writes a flag. -/

namespace Sys2Proof.Machine

/-- `MOV r1,r2` (R240), `MOV r,M` (R241), `MOV M,r` (R242). `MOV M,M` is no instruction: its byte is HLT
(log 15). -/
def execMov (dst src : Operand) (s : State) : Answer :=
  .next ((s.setOperand dst (s.operand src)).advance 1)

/-- `MVI r,d8` (R243) and `MVI M,d8` (R244). -/
def execMvi (dst : Operand) (imm : Byte) (s : State) : Answer := .next ((s.setOperand dst imm).advance 2)

/-- `LDA a16` (R245). -/
def execLda (addr : Word) (s : State) : Answer := .next ((s.setReg .a (s.readByte addr)).advance 3)

/-- `STA a16` (R246). -/
def execSta (addr : Word) (s : State) : Answer := .next ((s.writeByte addr s.regs.a).advance 3)

/-- `LHLD a16` (R247). -/
def execLhld (addr : Word) (s : State) : Answer := .next ((s.setPair .hl (s.readWord addr)).advance 3)

/-- `SHLD a16` (R248). -/
def execShld (addr : Word) (s : State) : Answer := .next ((s.writeWord addr s.regs.hl).advance 3)

/-- `LDAX rp` (R249). -/
def execLdax (p : IndexPair) (s : State) : Answer :=
  .next ((s.setReg .a (s.readByte (s.indexAddr p))).advance 1)

/-- `STAX rp` (R250). -/
def execStax (p : IndexPair) (s : State) : Answer :=
  .next ((s.writeByte (s.indexAddr p) s.regs.a).advance 1)

end Sys2Proof.Machine
end

