-- ==== Sys2Proof/Machine/MachineControl.lean ====
section
/-! DEFINITION. Machine control (41_machine_control.md) and the unrecognized byte
(40_execution_engine.md R124). -/

namespace Sys2Proof.Machine

/-- `NOP` (R140). -/
def execNop (s : State) : Answer := .next (s.advance 1)

/-- `HLT` (R141): no later step. -/
def execHlt (s : State) : Answer := .next (s.halt.advance 1)

/-- `EI` (R142). -/
def execEi (s : State) : Answer := .next ((s.setInte true).advance 1)

/-- `DI` (R143). -/
def execDi (s : State) : Answer := .next ((s.setInte false).advance 1)

/-- `UNRECOGNIZED` (40_execution_engine.md R124): the diagnostic, and one byte skipped. -/
def execUnrecognized (op : Byte) (s : State) : Answer := .next ((s.report op).advance 1)

end Sys2Proof.Machine
end

