-- ==== Sys2Proof/Machine/RegPair.lean ====
section
/-! DEFINITION. Register-pair instructions (46_register_pair.md R230 to R233). -/

namespace Sys2Proof.Machine

/-- `LXI rp,d16` (R230). -/
def execLxi (p : Pair) (imm : Word) (s : State) : Answer := .next ((s.setPair p imm).advance 3)

/-- `DAD rp` (R231): CY is bit 16 of the sum, no other flag. -/
def execDad (p : Pair) (s : State) : Answer :=
  let t := s.regs.hl.toNat + (s.pair p).toNat
  .next (((s.setPair .hl (BitVec.ofNat 16 t)).setCarry (t.testBit 16)).advance 1)

/-- `INX rp` (R232): no flag. -/
def execInx (p : Pair) (s : State) : Answer := .next ((s.setPair p (s.pair p + 1)).advance 1)

/-- `DCX rp` (R233): no flag. -/
def execDcx (p : Pair) (s : State) : Answer := .next ((s.setPair p (s.pair p - 1)).advance 1)

end Sys2Proof.Machine
end

