-- ==== Sys2Proof/Machine/Rotate.lean ====
section
/-! DEFINITION. Rotate, complement, carry and decimal adjust (44_rotate_carry.md R185 to R192). -/

namespace Sys2Proof.Machine

/-- A rotate's result: A and CY only (R185 to R188). -/
def State.rotated (s : State) (r : RotateResult) : State :=
  ((s.setReg .a r.value).setCarry r.carry).advance 1

/-- `RLC` (R185). -/
def execRlc (s : State) : Answer := .next (s.rotated (shiftIntoLow s.regs.a (s.regs.a.getLsbD 7)))

/-- `RRC` (R186). -/
def execRrc (s : State) : Answer := .next (s.rotated (shiftIntoHigh s.regs.a (s.regs.a.getLsbD 0)))

/-- `RAL` (R187). -/
def execRal (s : State) : Answer := .next ((s.flagsRead 1).rotated (shiftIntoLow s.regs.a s.carry))

/-- `RAR` (R188). -/
def execRar (s : State) : Answer := .next ((s.flagsRead 1).rotated (shiftIntoHigh s.regs.a s.carry))

/-- `CMA` (R189): no flag. -/
def execCma (s : State) : Answer := .next ((s.setReg .a (~~~s.regs.a)).advance 1)

/-- `STC` (R190). -/
def execStc (s : State) : Answer := .next ((s.setCarry true).advance 1)

/-- `CMC` (R191). -/
def execCmc (s : State) : Answer := .next (((s.flagsRead 1).setCarry (!s.carry)).advance 1)

/-- `DAA` (R192): CY is the first draw and AC the second under `FLAG_MODEL = unmodelled`
(40_execution_engine.md R119; log 16). -/
def execDaa (s : State) : Answer :=
  let r := daa8 s.regs.a (s.flagBit 1 (fun f => f.ac)) s.carry
  .next ((((s.flagsRead 2).setReg .a r.value).setFlags r.flags).advance 1)

end Sys2Proof.Machine
end

