-- ==== Sys2Proof/Machine/Stack.lean ====
section
/-! DEFINITION. Stack and exchange (43_stack_exchange.md R172 to R178). -/

namespace Sys2Proof.Machine

/-- `pairS(p)` as PUSH reads it (40_execution_engine.md R114; R171 for PSW). -/
def State.stackPair (s : State) : StackPair → Word
  | .bc => s.regs.bc
  | .de => s.regs.de
  | .hl => s.regs.hl
  | .psw => cat16 s.regs.a s.flagByte

/-- What reading `pairS(p)` leaves: a draw taken for the flag byte under `FLAG_MODEL = unmodelled`
(40_execution_engine.md R119). -/
def State.stackPairRead (s : State) : StackPair → State
  | .bc | .de | .hl => s
  | .psw => s.flagsRead 1

/-- `pairS(p) <- w` as POP writes it (40_execution_engine.md R114; R175 for PSW). -/
def State.setStackPair (s : State) (p : StackPair) (w : Word) : State :=
  match p with
  | .bc => { s with regs := s.regs.setBC w }
  | .de => { s with regs := s.regs.setDE w }
  | .hl => { s with regs := s.regs.setHL w }
  | .psw => (s.setReg .a (hi w)).setFlags (Flags.ofByte (lo w))

/-- `PUSH rp` (R172) and `PUSH PSW` (R173). -/
def execPush (p : StackPair) (s : State) : Answer :=
  .next (((s.stackPairRead p).push16 (s.stackPair p)).advance 1)

/-- `POP rp` (R174) and `POP PSW` (R175). -/
def execPop (p : StackPair) (s : State) : Answer :=
  .next ((s.dropTop.setStackPair p s.stackTop).advance 1)

/-- `XTHL` (R176): the two bytes at SP exchanged with HL; SP stays. -/
def execXthl (s : State) : Answer :=
  .next (((s.writeWord s.sp s.regs.hl).setPair .hl s.stackTop).advance 1)

/-- `XCHG` (R177): both pairs are read before either is written. -/
def execXchg (s : State) : Answer :=
  .next (((s.setPair .hl s.regs.de).setPair .de s.regs.hl).advance 1)

/-- `SPHL` (R178). -/
def execSphl (s : State) : Answer := .next ((s.setSp s.regs.hl).advance 1)

end Sys2Proof.Machine
end

