-- ==== Sys2Proof/WellFormed.lean ====
section
/-! DEFINITION. Which terms of `Instr` are instructions of this hardware. -/

namespace Sys2Proof

/-- The opcode bytes no stage of the decoder matches (30_encoding.md R84): 12 bytes, and four more
when `DECODE_EXTRA = false`. -/
def unrecognizedBytes (decodeExtra : Bool) : List Byte :=
  [0x08, 0x10, 0x18, 0x20, 0x28, 0x30, 0x38, 0xCB, 0xD9, 0xDD, 0xED, 0xFD]
    ++ if decodeExtra then [] else [0x27, 0xD3, 0xDB, 0xF9]

/-- The check. Three things can be wrong with a term: `MOV M,M`, whose byte is HLT (30_encoding.md
R80; 47_load_store.md R242); one of DAA, SPHL, IN, OUT where `DECODE_EXTRA = false` (30_encoding.md
R85); an unrecognized byte that some stage matches (30_encoding.md R84). -/
def Instr.wf (decodeExtra : Bool) : Instr → Bool
  | .mov .mem .mem => false
  | .mov (.reg _) _ | .mov .mem (.reg _) => true
  | .daa | .sphl | .inp _ | .out _ => decodeExtra
  | .unrecognized op => (unrecognizedBytes decodeExtra).contains op
  | .nop | .hlt | .ei | .di | .jmp _
  | .jnz _ | .jz _ | .jnc _ | .jc _ | .jpo _ | .jpe _ | .jp _ | .jm _
  | .call _ | .cnz _ | .cz _ | .cnc _ | .cc _ | .cpo _ | .cpe _ | .cp _ | .cm _
  | .ret | .rnz | .rz | .rnc | .rc | .rpo | .rpe | .rp | .rm
  | .rst _ | .pchl | .push _ | .pop _ | .xthl | .xchg
  | .rlc | .rrc | .ral | .rar | .cma | .stc | .cmc
  | .add _ | .adc _ | .sub _ | .sbb _ | .ana _ | .xra _ | .ora _ | .cmp _
  | .adi _ | .aci _ | .sui _ | .sbi _ | .ani _ | .xri _ | .ori _ | .cpi _
  | .inr _ | .dcr _ | .lxi _ _ | .dad _ | .inx _ | .dcx _
  | .mvi _ _ | .lda _ | .sta _ | .lhld _ | .shld _ | .ldax _ | .stax _ => true

end Sys2Proof
end

