-- ==== Sys2Proof/Decode.lean ====
section
/-! DEFINITION. The decoder block of 30_encoding.md: operand fields, the three-stage match, the
decoded record; and the encoder, from the same tables. -/

namespace Sys2Proof

/-! ## Field codes -/

/-- Register selector values (R77). -/
def Reg.code : Reg → BitVec 3
  | .b => 0 | .c => 1 | .d => 2 | .e => 3 | .h => 4 | .l => 5 | .a => 7

/-- Register-or-memory selector values: 6 is `M` (R77). -/
def Operand.code : Operand → BitVec 3
  | .reg r => r.code
  | .mem => 6

/-- The operand a selector names (R77). -/
def Operand.ofCode (c : BitVec 3) : Operand :=
  match c.toNat with
  | 0 => .reg .b | 1 => .reg .c | 2 => .reg .d | 3 => .reg .e
  | 4 => .reg .h | 5 => .reg .l | 6 => .mem | _ => .reg .a

/-- Pair selector values of LXI, DAD, INX, DCX (R78). -/
def Pair.code : Pair → BitVec 2
  | .bc => 0 | .de => 1 | .hl => 2 | .sp => 3

/-- The pair a selector names (R78). -/
def Pair.ofCode (c : BitVec 2) : Pair :=
  match c.toNat with
  | 0 => .bc | 1 => .de | 2 => .hl | _ => .sp

/-- Pair selector values of PUSH and POP (R78). -/
def StackPair.code : StackPair → BitVec 2
  | .bc => 0 | .de => 1 | .hl => 2 | .psw => 3

/-- The pair a PUSH or POP selector names (R78). -/
def StackPair.ofCode (c : BitVec 2) : StackPair :=
  match c.toNat with
  | 0 => .bc | 1 => .de | 2 => .hl | _ => .psw

/-- Pair selector values of STAX and LDAX (R78). -/
def IndexPair.code : IndexPair → BitVec 2
  | .bc => 0 | .de => 1

/-- The pair bit 4 of a STAX or LDAX opcode names (R83: `000p0010`, `000p1010`). -/
def IndexPair.ofBit (p : Bool) : IndexPair := if p then .de else .bc

/-- Condition selector values (R86). -/
def Cond.code : Cond → BitVec 3
  | .nz => 0 | .z => 1 | .nc => 2 | .c => 3 | .po => 4 | .pe => 5 | .p => 6 | .m => 7

/-- The condition a selector names (R86). -/
def Cond.ofCode (c : BitVec 3) : Cond :=
  match c.toNat with
  | 0 => .nz | 1 => .z | 2 => .nc | 3 => .c | 4 => .po | 5 => .pe | 6 => .p | _ => .m

/-! ## Forms, conditions, lengths, fields -/

/-- The conditional jump of a condition (R86, R91: the condition is fused into the mnemonic). -/
def Instr.jumpOn (target : Word) : Cond → Instr
  | .nz => .jnz target
  | .z => .jz target
  | .nc => .jnc target
  | .c => .jc target
  | .po => .jpo target
  | .pe => .jpe target
  | .p => .jp target
  | .m => .jm target

/-- The conditional call of a condition (R86, R91). -/
def Instr.callOn (target : Word) : Cond → Instr
  | .nz => .cnz target
  | .z => .cz target
  | .nc => .cnc target
  | .c => .cc target
  | .po => .cpo target
  | .pe => .cpe target
  | .p => .cp target
  | .m => .cm target

/-- The conditional return of a condition (R86, R91). -/
def Instr.returnOn : Cond → Instr
  | .nz => .rnz
  | .z => .rz
  | .nc => .rnc
  | .c => .rc
  | .po => .rpo
  | .pe => .rpe
  | .p => .rp
  | .m => .rm

/-- The condition a conditional form tests (R81, R86); no other form has one. -/
def Instr.cond : Instr → Option Cond
  | .jnz _ | .cnz _ | .rnz => some .nz
  | .jz _ | .cz _ | .rz => some .z
  | .jnc _ | .cnc _ | .rnc => some .nc
  | .jc _ | .cc _ | .rc => some .c
  | .jpo _ | .cpo _ | .rpo => some .po
  | .jpe _ | .cpe _ | .rpe => some .pe
  | .jp _ | .cp _ | .rp => some .p
  | .jm _ | .cm _ | .rm => some .m
  | .nop | .hlt | .ei | .di | .jmp _ | .call _ | .ret | .rst _ | .pchl | .push _ | .pop _
  | .xthl | .xchg | .sphl | .rlc | .rrc | .ral | .rar | .cma | .stc | .cmc | .daa | .add _
  | .adc _ | .sub _ | .sbb _ | .ana _ | .xra _ | .ora _ | .cmp _ | .adi _ | .aci _ | .sui _
  | .sbi _ | .ani _ | .xri _ | .ori _ | .cpi _ | .inr _ | .dcr _ | .lxi _ _ | .dad _ | .inx _
  | .dcx _ | .mov _ _ | .mvi _ _ | .lda _ | .sta _ | .lhld _ | .shld _ | .ldax _ | .stax _
  | .inp _ | .out _ | .unrecognized _ => none

/-- The instruction form (INDEX.md, "Instruction forms and their rules"). -/
def Instr.form : Instr → Form
  | .nop => .nop
  | .hlt => .hlt
  | .ei => .ei
  | .di => .di
  | .jmp _ => .jmp
  | .call _ => .call
  | .ret => .ret
  | .rst _ => .rst
  | .pchl => .pchl
  | .push .psw => .pushPsw | .push .bc | .push .de | .push .hl => .pushRp
  | .pop .psw => .popPsw | .pop .bc | .pop .de | .pop .hl => .popRp
  | .xthl => .xthl
  | .xchg => .xchg
  | .sphl => .sphl
  | .rlc => .rlc
  | .rrc => .rrc
  | .ral => .ral
  | .rar => .rar
  | .cma => .cma
  | .stc => .stc
  | .cmc => .cmc
  | .daa => .daa
  | .add (.reg _) => .addR | .add .mem => .addM
  | .adc (.reg _) => .adcR | .adc .mem => .adcM
  | .sub (.reg _) => .subR | .sub .mem => .subM
  | .sbb (.reg _) => .sbbR | .sbb .mem => .sbbM
  | .ana (.reg _) => .anaR | .ana .mem => .anaM
  | .xra (.reg _) => .xraR | .xra .mem => .xraM
  | .ora (.reg _) => .oraR | .ora .mem => .oraM
  | .cmp (.reg _) => .cmpR | .cmp .mem => .cmpM
  | .adi _ => .adi
  | .aci _ => .aci
  | .sui _ => .sui
  | .sbi _ => .sbi
  | .ani _ => .ani
  | .xri _ => .xri
  | .ori _ => .ori
  | .cpi _ => .cpi
  | .inr (.reg _) => .inrR | .inr .mem => .inrM
  | .dcr (.reg _) => .dcrR | .dcr .mem => .dcrM
  | .lxi _ _ => .lxi
  | .dad _ => .dad
  | .inx _ => .inx
  | .dcx _ => .dcx
  | .mov (.reg _) (.reg _) => .movRR | .mov (.reg _) .mem => .movRM | .mov .mem _ => .movMR
  | .mvi (.reg _) _ => .mviR | .mvi .mem _ => .mviM
  | .lda _ => .lda
  | .sta _ => .sta
  | .lhld _ => .lhld
  | .shld _ => .shld
  | .ldax _ => .ldax
  | .stax _ => .stax
  | .inp _ => .inp
  | .out _ => .out
  | .unrecognized _ => .unrecognized
  | .jnz _ | .jz _ | .jnc _ | .jc _ | .jpo _ | .jpe _ | .jp _ | .jm _ => .jcc
  | .cnz _ | .cz _ | .cnc _ | .cc _ | .cpo _ | .cpe _ | .cp _ | .cm _ => .ccc
  | .rnz | .rz | .rnc | .rc | .rpo | .rpe | .rp | .rm => .rcc

/-- The length in bytes of a form (R89). -/
def Form.length : Form → Nat
  | .jmp | .jcc | .call | .ccc | .lxi | .lda | .sta | .lhld | .shld => 3
  | .mviR | .mviM | .adi | .aci | .sui | .sbi | .ani | .xri | .ori | .cpi | .inp | .out => 2
  | .nop | .hlt | .ei | .di | .ret | .rcc | .rst | .pchl | .pushRp | .pushPsw | .popRp
  | .popPsw | .xthl | .xchg | .sphl | .rlc | .rrc | .ral | .rar | .cma | .stc | .cmc | .daa
  | .addR | .addM | .adcR | .adcM | .subR | .subM | .sbbR | .sbbM | .anaR | .anaM | .xraR
  | .xraM | .oraR | .oraM | .cmpR | .cmpM | .inrR | .inrM | .dcrR | .dcrM | .dad | .inx | .dcx
  | .movRR | .movRM | .movMR | .ldax | .stax | .unrecognized => 1

/-- The length in bytes of an instruction (R89): its form's. -/
def Instr.length (i : Instr) : Nat := i.form.length

/-- No field at all (R72: "the fields of rule R71 that the form has"). -/
def Fields.empty : Fields := { ddd := none, sss := none, rp := none, ccc := none, nnn := none }

/-- The fields of the opcode byte the form has (R71, R81; DEDUCED, log 17: an exact entry has none but
CMP M, whose `sss` is 6, R96). -/
def Instr.fields (i : Instr) : Fields :=
  match i with
  | .mov d s => { Fields.empty with ddd := some d.code, sss := some s.code }
  | .mvi d _ | .inr d | .dcr d => { Fields.empty with ddd := some d.code }
  | .add s | .adc s | .sub s | .sbb s | .ana s | .xra s | .ora s | .cmp s =>
    { Fields.empty with sss := some s.code }
  | .lxi p _ | .dad p | .inx p | .dcx p => { Fields.empty with rp := some p.code }
  | .push p | .pop p => { Fields.empty with rp := some p.code }
  | .ldax p | .stax p => { Fields.empty with rp := some p.code }
  | .rst n => { Fields.empty with nnn := some n }
  | .nop | .hlt | .ei | .di | .jmp _ | .jnz _ | .jz _ | .jnc _ | .jc _ | .jpo _ | .jpe _
  | .jp _ | .jm _ | .call _ | .cnz _ | .cz _ | .cnc _ | .cc _ | .cpo _ | .cpe _ | .cp _
  | .cm _ | .ret | .rnz | .rz | .rnc | .rc | .rpo | .rpe | .rp | .rm | .pchl | .xthl | .xchg
  | .sphl | .rlc | .rrc | .ral | .rar | .cma | .stc | .cmc | .daa | .adi _ | .aci _ | .sui _
  | .sbi _ | .ani _ | .xri _ | .ori _ | .cpi _ | .lda _ | .sta _ | .lhld _ | .shld _ | .inp _
  | .out _ | .unrecognized _ =>
    { Fields.empty with ccc := i.cond.map Cond.code }

/-! ## The three-stage match -/

/-- An entry of the exact-opcode table (R79): the byte, whether it needs `DECODE_EXTRA` (R85), and the
instruction, from the bytes at pc+1 and pc+2. -/
structure ExactRow where
  opcode : Byte
  extra  : Bool
  build  : Byte → Byte → Instr

/-- Stage 1, the exact-opcode table (R79). -/
def exactTable : List ExactRow :=
  [ { opcode := 0x00, extra := false, build := fun _ _ => .nop },
    { opcode := 0x76, extra := false, build := fun _ _ => .hlt },
    { opcode := 0xFB, extra := false, build := fun _ _ => .ei },
    { opcode := 0xF3, extra := false, build := fun _ _ => .di },
    { opcode := 0xC9, extra := false, build := fun _ _ => .ret },
    { opcode := 0xC3, extra := false, build := fun b1 b2 => .jmp (cat16 b2 b1) },
    { opcode := 0xCD, extra := false, build := fun b1 b2 => .call (cat16 b2 b1) },
    { opcode := 0xE3, extra := false, build := fun _ _ => .xthl },
    { opcode := 0x07, extra := false, build := fun _ _ => .rlc },
    { opcode := 0x0F, extra := false, build := fun _ _ => .rrc },
    { opcode := 0x17, extra := false, build := fun _ _ => .ral },
    { opcode := 0x1F, extra := false, build := fun _ _ => .rar },
    { opcode := 0x2F, extra := false, build := fun _ _ => .cma },
    { opcode := 0x37, extra := false, build := fun _ _ => .stc },
    { opcode := 0x3F, extra := false, build := fun _ _ => .cmc } ]
  ++
  [ { opcode := 0xC6, extra := false, build := fun b1 _ => .adi b1 },
    { opcode := 0xCE, extra := false, build := fun b1 _ => .aci b1 },
    { opcode := 0xD6, extra := false, build := fun b1 _ => .sui b1 },
    { opcode := 0xDE, extra := false, build := fun b1 _ => .sbi b1 },
    { opcode := 0xE6, extra := false, build := fun b1 _ => .ani b1 },
    { opcode := 0xEE, extra := false, build := fun b1 _ => .xri b1 },
    { opcode := 0xF6, extra := false, build := fun b1 _ => .ori b1 },
    { opcode := 0xFE, extra := false, build := fun b1 _ => .cpi b1 },
    { opcode := 0x22, extra := false, build := fun b1 b2 => .shld (cat16 b2 b1) },
    { opcode := 0x2A, extra := false, build := fun b1 b2 => .lhld (cat16 b2 b1) },
    { opcode := 0x32, extra := false, build := fun b1 b2 => .sta (cat16 b2 b1) },
    { opcode := 0x3A, extra := false, build := fun b1 b2 => .lda (cat16 b2 b1) },
    { opcode := 0xBE, extra := false, build := fun _ _ => .cmp .mem },
    { opcode := 0xEB, extra := false, build := fun _ _ => .xchg },
    { opcode := 0xE9, extra := false, build := fun _ _ => .pchl } ]
  ++
  [ { opcode := 0x27, extra := true, build := fun _ _ => .daa },
    { opcode := 0xF9, extra := true, build := fun _ _ => .sphl },
    { opcode := 0xD3, extra := true, build := fun b1 _ => .out b1 },
    { opcode := 0xDB, extra := true, build := fun b1 _ => .inp b1 } ]

/-- An entry of stage 2 (R81): the family, its mask and value, and the instruction, from the opcode
byte and the bytes at pc+1 and pc+2. -/
structure FamilyRow where
  family : Family
  mask   : Byte
  value  : Byte
  build  : Byte → Byte → Byte → Instr

/-- A byte matches a family when `opcode & mask = value` (R81). -/
def FamilyRow.matches (f : FamilyRow) (op : Byte) : Bool := op &&& f.mask == f.value

/-- `sss` = opcode[2:0] as an operand (R71, R77). -/
def sssOf (op : Byte) : Operand := Operand.ofCode (op.extractLsb' 0 3)

/-- `ddd` = opcode[5:3] as an operand (R71, R77). -/
def dddOf (op : Byte) : Operand := Operand.ofCode (op.extractLsb' 3 3)

/-- `rp` = opcode[5:4] as a pair (R71, R78). -/
def rpOf (op : Byte) : Pair := Pair.ofCode (op.extractLsb' 4 2)

/-- `rp` = opcode[5:4] as a pair of PUSH and POP (R71, R78). -/
def stackRpOf (op : Byte) : StackPair := StackPair.ofCode (op.extractLsb' 4 2)

/-- `p` = opcode[4] as a pair of STAX and LDAX (R83). -/
def indexRpOf (op : Byte) : IndexPair := IndexPair.ofBit (op.getLsbD 4)

/-- `ccc` = opcode[5:3] as a condition (R71, R86). -/
def cccOf (op : Byte) : Cond := Cond.ofCode (op.extractLsb' 3 3)

/-- `nnn` = opcode[5:3] (R71, R87). -/
def nnnOf (op : Byte) : BitVec 3 := op.extractLsb' 3 3

/-- Stage 2, the masked families in the order of R81. -/
def familyTable : List FamilyRow :=
  [ { family := .push, mask := 0xCF, value := 0xC5,
      build := fun op _ _ => .push (stackRpOf op) },
    { family := .pop, mask := 0xCF, value := 0xC1,
      build := fun op _ _ => .pop (stackRpOf op) },
    { family := .rst, mask := 0xC7, value := 0xC7,
      build := fun op _ _ => .rst (nnnOf op) },
    { family := .rcc, mask := 0xC7, value := 0xC0,
      build := fun op _ _ => Instr.returnOn (cccOf op) },
    { family := .ccc, mask := 0xC7, value := 0xC4,
      build := fun op b1 b2 => Instr.callOn (cat16 b2 b1) (cccOf op) },
    { family := .jcc, mask := 0xC7, value := 0xC2,
      build := fun op b1 b2 => Instr.jumpOn (cat16 b2 b1) (cccOf op) },
    { family := .cmp, mask := 0xF8, value := 0xB8,
      build := fun op _ _ => .cmp (sssOf op) },
    { family := .ora, mask := 0xF8, value := 0xB0,
      build := fun op _ _ => .ora (sssOf op) },
    { family := .xra, mask := 0xF8, value := 0xA8,
      build := fun op _ _ => .xra (sssOf op) },
    { family := .ana, mask := 0xF8, value := 0xA0,
      build := fun op _ _ => .ana (sssOf op) },
    { family := .dad, mask := 0xCF, value := 0x09,
      build := fun op _ _ => .dad (rpOf op) },
    { family := .inx, mask := 0xCF, value := 0x03,
      build := fun op _ _ => .inx (rpOf op) } ]
  ++
  [ { family := .dcx, mask := 0xCF, value := 0x0B,
      build := fun op _ _ => .dcx (rpOf op) },
    { family := .inr, mask := 0xC7, value := 0x04,
      build := fun op _ _ => .inr (dddOf op) },
    { family := .dcr, mask := 0xC7, value := 0x05,
      build := fun op _ _ => .dcr (dddOf op) },
    { family := .sub, mask := 0xF8, value := 0x90,
      build := fun op _ _ => .sub (sssOf op) },
    { family := .sbb, mask := 0xF8, value := 0x98,
      build := fun op _ _ => .sbb (sssOf op) },
    { family := .add, mask := 0xF8, value := 0x80,
      build := fun op _ _ => .add (sssOf op) },
    { family := .adc, mask := 0xF8, value := 0x88,
      build := fun op _ _ => .adc (sssOf op) },
    { family := .stax, mask := 0xEF, value := 0x02,
      build := fun op _ _ => .stax (indexRpOf op) },
    { family := .ldax, mask := 0xEF, value := 0x0A,
      build := fun op _ _ => .ldax (indexRpOf op) },
    { family := .lxi, mask := 0xCF, value := 0x01,
      build := fun op b1 b2 => .lxi (rpOf op) (cat16 b2 b1) },
    { family := .mvi, mask := 0xC7, value := 0x06,
      build := fun op b1 _ => .mvi (dddOf op) b1 },
    { family := .mov, mask := 0xC0, value := 0x40,
      build := fun op _ _ => .mov (dddOf op) (sssOf op) } ]

/-- The decoded record of an instruction (R72): `imm8` stands when the length is 2, `imm16` when it
is 3 (R75, R76). -/
def recordOf (op b1 b2 : Byte) (stage : Stage) (i : Instr) : DecodedInstruction :=
  { opcode := op
    instr := i
    form := i.form
    stage := stage
    length := i.length
    fields := i.fields
    imm8 := if i.length = 2 then some b1 else none
    imm16 := if i.length = 3 then some (cat16 b2 b1) else none }

/-- Whether stage 1 resolves a byte by this entry (R79, R85). -/
def ExactRow.matches (r : ExactRow) (decodeExtra : Bool) (op : Byte) : Bool :=
  r.opcode == op && (decodeExtra || !r.extra)

/-- The decoder (R73, R90): total, from the bytes at pc, pc+1 and pc+2 (R74: "a decoder that reads b1
and b2 for every opcode is equivalent"), by the first of stages 1, 2, 3 that applies. A byte no stage
matches is rejected by name, as `unrecognized` (R84). -/
def decode (decodeExtra : Bool) (b0 b1 b2 : Byte) : DecodedInstruction :=
  match exactTable.find? (fun r => r.matches decodeExtra b0) with
  | some r => recordOf b0 b1 b2 .exact (r.build b1 b2)
  | none =>
    match familyTable.find? (fun f => f.matches b0) with
    | some f => recordOf b0 b1 b2 (.masked f.family) (f.build b0 b1 b2)
    | none => recordOf b0 b1 b2 .unmatched (.unrecognized b0)

/-- The instruction the decoder reads from an instruction whose bits are `w`, its first byte in the
low bits, every bit above `nbits` zero. -/
def decodeTableWord (nbits w : Nat) : Option Instr :=
  let v := w % 2 ^ nbits
  some (decode Params.default.decodeExtra (BitVec.ofNat 8 v) (BitVec.ofNat 8 (v / 256))
    (BitVec.ofNat 8 (v / 65536))).instr

/-! ## The encoder -/

/-- A field of the opcode byte placed at a bit position (R71). -/
def fieldAt {n : Nat} (c : BitVec n) (at_ : Nat) : Byte := c.setWidth 8 <<< at_

/-- The opcode byte of an instruction (R79, R81). -/
def Instr.opcode : Instr → Byte
  | .nop => 0x00
  | .hlt => 0x76
  | .ei => 0xFB
  | .di => 0xF3
  | .jmp _ => 0xC3
  | .jnz _ => 0xC2 ||| fieldAt Cond.nz.code 3
  | .jz _ => 0xC2 ||| fieldAt Cond.z.code 3
  | .jnc _ => 0xC2 ||| fieldAt Cond.nc.code 3
  | .jc _ => 0xC2 ||| fieldAt Cond.c.code 3
  | .jpo _ => 0xC2 ||| fieldAt Cond.po.code 3
  | .jpe _ => 0xC2 ||| fieldAt Cond.pe.code 3
  | .jp _ => 0xC2 ||| fieldAt Cond.p.code 3
  | .jm _ => 0xC2 ||| fieldAt Cond.m.code 3
  | .call _ => 0xCD
  | .cnz _ => 0xC4 ||| fieldAt Cond.nz.code 3
  | .cz _ => 0xC4 ||| fieldAt Cond.z.code 3
  | .cnc _ => 0xC4 ||| fieldAt Cond.nc.code 3
  | .cc _ => 0xC4 ||| fieldAt Cond.c.code 3
  | .cpo _ => 0xC4 ||| fieldAt Cond.po.code 3
  | .cpe _ => 0xC4 ||| fieldAt Cond.pe.code 3
  | .cp _ => 0xC4 ||| fieldAt Cond.p.code 3
  | .cm _ => 0xC4 ||| fieldAt Cond.m.code 3
  | .ret => 0xC9
  | .rnz => 0xC0 ||| fieldAt Cond.nz.code 3
  | .rz => 0xC0 ||| fieldAt Cond.z.code 3
  | .rnc => 0xC0 ||| fieldAt Cond.nc.code 3
  | .rc => 0xC0 ||| fieldAt Cond.c.code 3
  | .rpo => 0xC0 ||| fieldAt Cond.po.code 3
  | .rpe => 0xC0 ||| fieldAt Cond.pe.code 3
  | .rp => 0xC0 ||| fieldAt Cond.p.code 3
  | .rm => 0xC0 ||| fieldAt Cond.m.code 3
  | .rst n => 0xC7 ||| fieldAt n 3
  | .pchl => 0xE9
  | .push p => 0xC5 ||| fieldAt p.code 4
  | .pop p => 0xC1 ||| fieldAt p.code 4
  | .xthl => 0xE3
  | .xchg => 0xEB
  | .sphl => 0xF9
  | .rlc => 0x07
  | .rrc => 0x0F
  | .ral => 0x17
  | .rar => 0x1F
  | .cma => 0x2F
  | .stc => 0x37
  | .cmc => 0x3F
  | .daa => 0x27
  | .add s => 0x80 ||| fieldAt s.code 0
  | .adc s => 0x88 ||| fieldAt s.code 0
  | .sub s => 0x90 ||| fieldAt s.code 0
  | .sbb s => 0x98 ||| fieldAt s.code 0
  | .ana s => 0xA0 ||| fieldAt s.code 0
  | .xra s => 0xA8 ||| fieldAt s.code 0
  | .ora s => 0xB0 ||| fieldAt s.code 0
  | .cmp s => 0xB8 ||| fieldAt s.code 0
  | .adi _ => 0xC6
  | .aci _ => 0xCE
  | .sui _ => 0xD6
  | .sbi _ => 0xDE
  | .ani _ => 0xE6
  | .xri _ => 0xEE
  | .ori _ => 0xF6
  | .cpi _ => 0xFE
  | .inr d => 0x04 ||| fieldAt d.code 3
  | .dcr d => 0x05 ||| fieldAt d.code 3
  | .lxi p _ => 0x01 ||| fieldAt p.code 4
  | .dad p => 0x09 ||| fieldAt p.code 4
  | .inx p => 0x03 ||| fieldAt p.code 4
  | .dcx p => 0x0B ||| fieldAt p.code 4
  | .mov d s => 0x40 ||| fieldAt d.code 3 ||| fieldAt s.code 0
  | .mvi d _ => 0x06 ||| fieldAt d.code 3
  | .lda _ => 0x3A
  | .sta _ => 0x32
  | .lhld _ => 0x2A
  | .shld _ => 0x22
  | .ldax p => 0x0A ||| fieldAt p.code 4
  | .stax p => 0x02 ||| fieldAt p.code 4
  | .inp _ => 0xDB
  | .out _ => 0xD3
  | .unrecognized op => op

/-- The bytes after the opcode byte (R70): one immediate byte, or a 16-bit immediate low byte first. -/
def Instr.operandBytes : Instr → List Byte
  | .jmp v | .jnz v | .jz v | .jnc v | .jc v | .jpo v | .jpe v | .jp v | .jm v | .call v
  | .cnz v | .cz v | .cnc v | .cc v | .cpo v | .cpe v | .cp v | .cm v | .lda v | .sta v
  | .lhld v | .shld v => [lo v, hi v]
  | .lxi _ v => [lo v, hi v]
  | .adi v | .aci v | .sui v | .sbi v | .ani v | .xri v | .ori v | .cpi v | .inp v | .out v => [v]
  | .mvi _ v => [v]
  | .nop | .hlt | .ei | .di | .ret | .rnz | .rz | .rnc | .rc | .rpo | .rpe | .rp | .rm
  | .rst _ | .pchl | .push _ | .pop _ | .xthl | .xchg | .sphl | .rlc | .rrc | .ral | .rar
  | .cma | .stc | .cmc | .daa | .add _ | .adc _ | .sub _ | .sbb _ | .ana _ | .xra _ | .ora _
  | .cmp _ | .inr _ | .dcr _ | .dad _ | .inx _ | .dcx _ | .mov _ _ | .ldax _ | .stax _
  | .unrecognized _ => []

/-- The encoder: the bytes of an instruction, in address order (R70). -/
def encode (i : Instr) : List Byte := i.opcode :: i.operandBytes

end Sys2Proof
end

