-- ==== Sys2Proof/Machine/Access.lean ====
section
/-! DEFINITION. The byte accesses of an instruction, in the order of 20_memory.md R66, and the effective
address of its trace record (60_exceptions.md R275). -/

namespace Sys2Proof.Machine

/-- A byte read at an address. -/
def State.loadAt (s : State) (a : Word) : Access := { kind := .load, addr := a, value := s.readByte a }

/-- Two bytes read, the lower address first. -/
def State.loadWordAt (s : State) (a : Word) : List Access := [s.loadAt a, s.loadAt (a + 1)]

/-- A byte written at an address. -/
def storeAt (a : Word) (v : Byte) : Access := { kind := .store, addr := a, value := v }

/-- Two bytes written, the low byte first, at the lower address. -/
def storeWordAt (a : Word) (w : Word) : List Access := [storeAt a (lo w), storeAt (a + 1) (hi w)]

/-- The fetches of an instruction of `n` bytes: pc, pc+1, pc+2 (30_encoding.md R74). -/
def State.fetchesOf (s : State) (n : Nat) : List Access :=
  (List.range n).map (fun k =>
    { kind := .fetch, addr := s.pc + BitVec.ofNat 16 k, value := s.readByte (s.pc + BitVec.ofNat 16 k) })

/-- Whether a conditional form is taken; `none` for the other forms (60_exceptions.md R275). -/
def State.takenBy (s : State) (i : Instr) : Option Bool := i.cond.map s.holds

/-- The read an `M` operand makes (20_memory.md R57). -/
def State.operandLoad (s : State) : Operand → List Access
  | .reg _ => []
  | .mem => [s.loadAt s.regs.hl]

/-- The write an `M` operand makes (20_memory.md R57). -/
def State.operandStore (s : State) (v : Byte) : Operand → List Access
  | .reg _ => []
  | .mem => [storeAt s.regs.hl v]

/-- The data accesses of an instruction, in order (20_memory.md R57, R66); the fetches come before. -/
def State.dataAccesses (s : State) (i : Instr) : List Access :=
  match i with
  | .add src | .adc src | .sub src | .sbb src | .ana src | .xra src | .ora src | .cmp src =>
    s.operandLoad src
  | .inr dst => s.operandLoad dst ++ s.operandStore (inc8 s.flags (s.operand dst)).value dst
  | .dcr dst => s.operandLoad dst ++ s.operandStore (dec8 s.flags (s.operand dst)).value dst
  | .mov dst src => s.operandLoad src ++ s.operandStore (s.operand src) dst
  | .mvi dst imm => s.operandStore imm dst
  | .lda addr => [s.loadAt addr]
  | .sta addr => [storeAt addr s.regs.a]
  | .lhld addr => s.loadWordAt addr
  | .shld addr => storeWordAt addr s.regs.hl
  | .ldax p => [s.loadAt (s.indexAddr p)]
  | .stax p => [storeAt (s.indexAddr p) s.regs.a]
  | .push p => storeWordAt (s.sp - 2) (s.stackPair p)
  | .pop _ | .ret => s.loadWordAt s.sp
  | .xthl => s.loadWordAt s.sp ++ storeWordAt s.sp s.regs.hl
  | .call _ => storeWordAt (s.sp - 2) (s.pc + 3)
  | .rst _ => storeWordAt (s.sp - 2) (s.pc + 1)
  | .cnz _ | .cz _ | .cnc _ | .cc _ | .cpo _ | .cpe _ | .cp _ | .cm _ =>
    if s.takenBy i = some true then storeWordAt (s.sp - 2) (s.pc + 3) else []
  | .rnz | .rz | .rnc | .rc | .rpo | .rpe | .rp | .rm =>
    if s.takenBy i = some true then s.loadWordAt s.sp else []
  | .nop | .hlt | .ei | .di | .jmp _ | .jnz _ | .jz _ | .jnc _ | .jc _ | .jpo _ | .jpe _
  | .jp _ | .jm _ | .pchl | .xchg | .sphl | .rlc | .rrc | .ral | .rar | .cma | .stc | .cmc
  | .daa | .adi _ | .aci _ | .sui _ | .sbi _ | .ani _ | .xri _ | .ori _ | .cpi _ | .lxi _ _
  | .dad _ | .inx _ | .dcx _ | .inp _ | .out _ | .unrecognized _ => []

/-- HL for an `M` operand (60_exceptions.md R275). -/
def State.operandAddr (s : State) : Operand → Option Word
  | .reg _ => none
  | .mem => some s.regs.hl

/-- The effective address of the trace record, "when the form has one" (60_exceptions.md R275): HL for
an `M` operand, BC or DE for LDAX and STAX, imm16 for LDA, STA, LHLD, SHLD, and for a form that reads
or writes the stack the SP at the access, SP after the decrement for a push. DESIGN CHOICE (log 11),
safe. -/
def State.effectiveAddr (s : State) (i : Instr) : Option Word :=
  match i with
  | .add o | .adc o | .sub o | .sbb o | .ana o | .xra o | .ora o | .cmp o | .inr o | .dcr o =>
    s.operandAddr o
  | .mov dst src => (s.operandAddr dst).or (s.operandAddr src)
  | .mvi dst _ => s.operandAddr dst
  | .lda addr | .sta addr | .lhld addr | .shld addr => some addr
  | .ldax p | .stax p => some (s.indexAddr p)
  | .push _ | .call _ | .rst _ => some (s.sp - 2)
  | .pop _ | .ret | .xthl => some s.sp
  | .cnz _ | .cz _ | .cnc _ | .cc _ | .cpo _ | .cpe _ | .cp _ | .cm _ =>
    if s.takenBy i = some true then some (s.sp - 2) else none
  | .rnz | .rz | .rnc | .rc | .rpo | .rpe | .rp | .rm =>
    if s.takenBy i = some true then some s.sp else none
  | .nop | .hlt | .ei | .di | .jmp _ | .jnz _ | .jz _ | .jnc _ | .jc _ | .jpo _ | .jpe _
  | .jp _ | .jm _ | .pchl | .xchg | .sphl | .rlc | .rrc | .ral | .rar | .cma | .stc | .cmc
  | .daa | .adi _ | .aci _ | .sui _ | .sbi _ | .ani _ | .xri _ | .ori _ | .cpi _ | .lxi _ _
  | .dad _ | .inx _ | .dcx _ | .inp _ | .out _ | .unrecognized _ => none

end Sys2Proof.Machine
end

