-- ==== Sys2Proof/Machine/Retire.lean ====
section
/-! DEFINITION. What the driver loop adds around an instruction (40_execution_engine.md R110): the
fetch and decode before it, the stall and the records after it, and the stall step. -/

namespace Sys2Proof.Machine

/-- The decoded record at pc (30_encoding.md R73, R74): the addresses wrap modulo 65536. -/
def State.fetched (s : State) : DecodedInstruction :=
  decode s.params.decodeExtra (s.readByte s.pc) (s.readByte (s.pc + 1)) (s.readByte (s.pc + 2))

/-- The default stall table (70_reset_and_hazards.md R298): the value of a form, by whether a
conditional form was taken. -/
def defaultStall (taken : Bool) : Form → Nat
  | .nop | .ei | .di | .hlt | .unrecognized | .movRR | .xchg | .sphl | .pchl | .inx | .dcx
  | .rlc | .rrc | .ral | .rar | .cma | .stc | .cmc | .daa | .addR | .adcR | .subR | .sbbR
  | .anaR | .xraR | .oraR | .cmpR | .inrR | .dcrR => 0
  | .movRM | .movMR | .addM | .adcM | .subM | .sbbM | .anaM | .xraM | .oraM | .cmpM | .adi
  | .aci | .sui | .sbi | .ani | .xri | .ori | .cpi | .mviR | .ldax | .stax => 1
  | .mviM | .inrM | .dcrM | .lxi | .dad | .jmp | .jcc | .ret | .rst | .pushRp | .pushPsw
  | .popRp | .popPsw | .inp | .out => 2
  | .lda | .sta => 3
  | .lhld | .shld | .call | .xthl => 4
  | .ccc => if taken then 4 else 2
  | .rcc => if taken then 2 else 0

/-- `STALL_TABLE(form, taken)` (40_execution_engine.md R110; 70_reset_and_hazards.md R298): the
parameter's row, else the default. A form that is not conditional is looked up as not taken
(log 12). -/
def stallOf (p : Params) (form : Form) (taken : Bool) : Nat :=
  match p.stallRows.find? (fun r => r.form == form && r.taken == taken) with
  | some r => r.stall
  | none => defaultStall taken form

/-- The diagnostic a decoded record carries (60_exceptions.md R271, R275). -/
def State.diagnosticOf (s : State) (d : DecodedInstruction) : Option Diagnostic :=
  match d.stage with
  | .unmatched => some { opcode := d.opcode, pc := s.pc }
  | .exact | .masked _ => none

/-- The trace record of the instruction decoded as `d` in the state `s` before it (60_exceptions.md
R275). -/
def State.traceRecord (s : State) (d : DecodedInstruction) : TraceRecord :=
  { pc := s.pc
    bytes := (s.fetchesOf d.length).map Access.value
    decoded := d
    ea := s.effectiveAddr d.instr
    taken := s.takenBy d.instr
    diag := s.diagnosticOf d }

/-- What the driver loop adds after an instruction has run (40_execution_engine.md R110): `stall`, the
trace record, and the event history of 20_memory.md R66; `s` is the state before, `after` what `exec`
answered (log 18). -/
def State.retire (s : State) (d : DecodedInstruction) (after : State) : State :=
  { after with
    stall := stallOf s.params d.form ((s.takenBy d.instr).getD false)
    trace := after.trace ++ [s.traceRecord d]
    accesses := after.accesses ++ (s.fetchesOf d.length ++ s.dataAccesses d.instr) }

/-- The stall step (40_execution_engine.md R110): "nothing else changes". -/
def State.stallStep (s : State) : State := { s with stall := s.stall - 1 }

end Sys2Proof.Machine
end

