-- ==== Sys2Proof/Machine/Step.lean ====
section
/-! DEFINITION. One step of the block (40_execution_engine.md R110), and an instruction stored where the
next step fetches. -/

namespace Sys2Proof.Machine

/-- The instruction step (40_execution_engine.md R110): decode at pc, execute, then stall and trace. -/
def State.runInstruction (s : State) : Host.Outcome State Fault Refusal :=
  match exec s.fetched.instr s with
  | .next after => .next (s.retire s.fetched after)
  | .fault r => .fault r
  | .refused r => .refused r

/-- One step (40_execution_engine.md R110): none when halted (log 8), a stall step when a stall is
pending, else one whole instruction. -/
def step (s : State) : Host.Outcome State Fault Refusal :=
  if s.halted then .refused .runEnded
  else if 0 < s.stall then .next s.stallStep
  else s.runInstruction

/-- The bytes of a word of `nbits` bits, first byte in its low bits, stored at pc, pc+1 and pc+2 (the
bits above `nbits` zero), in a machine that is not halted and has no stall pending, so that the next
step runs that instruction. It stands for the loader (70_reset_and_hazards.md R293; log 13). -/
def State.withFetchWord (s : State) (nbits w : Nat) : State :=
  let v := w % 2 ^ nbits
  let s' := ((s.writeByte s.pc (BitVec.ofNat 8 v)).writeByte (s.pc + 1) (BitVec.ofNat 8 (v / 256))).writeByte
    (s.pc + 2) (BitVec.ofNat 8 (v / 65536))
  { s' with stall := 0, halted := false }

end Sys2Proof.Machine
end

