-- ==== Sys2Proof/Safety.lean ====
section
/-! DEFINITION. The terms claims use: the invariant of a run, a run without a diagnostic, what an
instruction leaves unchanged, and the results of the spec's helpers in plain arithmetic, written
apart from the machine's own operations. -/

namespace Sys2Proof.Machine

/-! ## Runs -/

/-- What holds of every state of a run: memory is canonical; the diagnostic log is the diagnostics of
the trace (60_exceptions.md R271: "kept with the trace"); every traced instruction is well formed and
its bytes are its encoding; the fetched bytes of the event history are the bytes of the trace; a run
that ended, ended with HLT (70_reset_and_hazards.md R301); with the default stall table the stall never
exceeds 4 (10_state.md R30). -/
structure State.Inv (s : State) : Prop where
  memory  : s.mem.wf
  diags   : s.diags = s.trace.filterMap TraceRecord.diag
  records : ∀ r ∈ s.trace,
    r.decoded.instr.wf s.params.decodeExtra = true ∧ r.bytes = encode r.decoded.instr
  fetches : (s.accesses.filter (fun x => x.kind == .fetch)).map Access.value
    = s.trace.flatMap TraceRecord.bytes
  ended   : s.halted = true → ∃ r, s.trace.getLast? = some r ∧ r.decoded.instr = .hlt
  stalls  : s.params.stallRows = [] → s.stall ≤ 4

/-- A run with no `Unrecognized` record so far, the premise of 60_exceptions.md R282. -/
def State.Clean (s : State) : Prop := s.diags = []

/-- A state with what the stall counter and its table do to it taken out (70_reset_and_hazards.md
R300). -/
def State.withoutTiming (s : State) : State :=
  { s with stall := 0, params := { s.params with stallRows := [] } }

/-! ## Frames -/

/-- The bytes at all addresses but `stored` read as before. -/
def KeepsMemoryBut (s t : State) (stored : List Word) : Prop :=
  ∀ a : Word, a ∉ stored → t.readByte a = s.readByte a

/-- The registers but `written` hold what they held. -/
def KeepsRegsBut (s t : State) (written : List Reg) : Prop :=
  ∀ r : Reg, r ∉ written → t.regs.get r = s.regs.get r

/-- The control bits, the stall, the parameters and the logs stay. -/
def KeepsControl (s t : State) : Prop :=
  t.inte = s.inte ∧ t.halted = s.halted ∧ t.stall = s.stall ∧ t.params = s.params
    ∧ t.trace = s.trace ∧ t.diags = s.diags ∧ t.io = s.io ∧ t.accesses = s.accesses

/-- The frame of an instruction that writes no control bit and no log: everything but the registers
`written`, the bytes at `stored`, SP, pc, the flags and the draw counter, which a statement names
itself. -/
def Frame (s t : State) (written : List Reg) (stored : List Word) : Prop :=
  KeepsRegsBut s t written ∧ KeepsMemoryBut s t stored ∧ KeepsControl s t

/-- The draws an instruction that reads `n` flag values takes: `n` under `FLAG_MODEL = unmodelled`, none
under `intel8080` (40_execution_engine.md R119). -/
def DrawsFlags (s t : State) (n : Nat) : Prop :=
  (s.params.flagModel = .intel8080 → t.draws = s.draws)
    ∧ (s.params.flagModel = .unmodelled → t.draws = s.draws + n)

/-- The flags after an instruction that writes them: as `P` says under `FLAG_MODEL = intel8080`, not
written under `unmodelled` (40_execution_engine.md R119). -/
def FlagsBecome (s t : State) (P : Flags → Prop) : Prop :=
  (s.params.flagModel = .intel8080 → P t.flags)
    ∧ (s.params.flagModel = .unmodelled → t.flags = s.flags)

/-- Only CY is written, to `v` (40_execution_engine.md R123). -/
def OnlyCarryBecomes (s t : State) (v : Bool) : Prop :=
  FlagsBecome s t (fun f => f.cy = v ∧ f.s = s.flags.s ∧ f.z = s.flags.z ∧ f.ac = s.flags.ac
    ∧ f.p = s.flags.p)

/-! ## What an instruction reads -/

/-- The byte an operand names (40_execution_engine.md R113): a register, or the byte at H:L. -/
def operandSeen (s : State) : Operand → Byte
  | .reg r => s.regs.get r
  | .mem => s.readByte (cat16 s.regs.h s.regs.l)

/-- The value of a register pair (10_state.md R23; 40_execution_engine.md R114). -/
def pairSeen (s : State) : Pair → Word
  | .bc => cat16 s.regs.b s.regs.c
  | .de => cat16 s.regs.d s.regs.e
  | .hl => cat16 s.regs.h s.regs.l
  | .sp => s.sp

/-- The registers a pair is a view of (10_state.md R23). -/
def pairRegs : Pair → List Reg
  | .bc => [.b, .c]
  | .de => [.d, .e]
  | .hl => [.h, .l]
  | .sp => []

/-- The address STAX and LDAX use (47_load_store.md R249, R250). -/
def indexSeen (s : State) : IndexPair → Word
  | .bc => cat16 s.regs.b s.regs.c
  | .de => cat16 s.regs.d s.regs.e

/-- CY as an instruction reads it: the flag, or under `unmodelled` a draw (40_execution_engine.md
R119). -/
def carrySeen (s : State) : Bool :=
  match s.params.flagModel with
  | .intel8080 => s.flags.cy
  | .unmodelled => Config.drawBit s.draws

/-- A condition as a conditional form sees it (40_execution_engine.md R118), or under `unmodelled` a draw
(R119). -/
def conditionSeen (s : State) (cc : Cond) : Bool :=
  match s.params.flagModel with
  | .unmodelled => Config.drawBit s.draws
  | .intel8080 =>
    match cc with
    | .nz => s.flags.z == false
    | .z => s.flags.z == true
    | .nc => s.flags.cy == false
    | .c => s.flags.cy == true
    | .po => s.flags.p == false
    | .pe => s.flags.p == true
    | .p => s.flags.s == false
    | .m => s.flags.s == true

/-! ## Encodings -/

/-- The selector value of an operand (30_encoding.md R77), as a byte. -/
def selector : Operand → Byte
  | .reg .b => 0 | .reg .c => 1 | .reg .d => 2 | .reg .e => 3
  | .reg .h => 4 | .reg .l => 5 | .mem => 6 | .reg .a => 7

/-- The selector value of a pair (30_encoding.md R78), as a byte. -/
def pairSelector : Pair → Byte
  | .bc => 0 | .de => 1 | .hl => 2 | .sp => 3

/-- The selector value of a condition (30_encoding.md R86), as a byte. -/
def condSelector : Cond → Byte
  | .nz => 0 | .z => 1 | .nc => 2 | .c => 3 | .po => 4 | .pe => 5 | .p => 6 | .m => 7

/-- Wherever the instruction is one of the hardware's, these bytes decode to it at this stage and to this
length, whatever bytes follow (30_encoding.md R72, R79, R81, R89). -/
def EncodedAs (i : Instr) (bytes : List Byte) (stage : Stage) : Prop :=
  ∀ (decodeExtra : Bool) (b0 b1 b2 : Byte), i.wf decodeExtra = true → bytes <+: [b0, b1, b2] →
    (decode decodeExtra b0 b1 b2).instr = i
      ∧ (decode decodeExtra b0 b1 b2).stage = stage
      ∧ (decode decodeExtra b0 b1 b2).length = bytes.length

/-- A byte that is unrecognized with `DECODE_EXTRA = false` (30_encoding.md R84, R85). -/
def UnrecognizedWithoutExtra (op : Byte) : Prop :=
  ∀ b1 b2 : Byte, (decode false op b1 b2).instr = .unrecognized op
    ∧ (decode false op b1 b2).stage = .unmatched ∧ (decode false op b1 b2).length = 1

/-! ## Results in plain arithmetic -/

/-- S, Z and P of a result (00_scope.md R14; 10_state.md R26): bit 7, zero, an even number of 1 bits. -/
def SzpSeen (f : Flags) (r : Byte) : Prop :=
  f.s = decide (128 ≤ r.toNat) ∧ f.z = decide (r.toNat = 0)
    ∧ f.p = decide ((List.range 8).countP (fun k => r.getLsbD k) % 2 = 0)

/-- The flags of `add8` (40_execution_engine.md R115) for the operands and the result `r`. -/
def SumFlags (f : Flags) (a b : Byte) (cin : Bool) (r : Byte) : Prop :=
  f.cy = decide (256 ≤ a.toNat + b.toNat + cin.toNat)
    ∧ f.ac = decide (15 < a.toNat % 16 + b.toNat % 16 + cin.toNat) ∧ SzpSeen f r

/-- `r` is `add8(a, b, cin)` (40_execution_engine.md R115; 45_alu.md R228). -/
def IsSum (r a b : Byte) (cin : Bool) : Prop := r.toNat = (a.toNat + b.toNat + cin.toNat) % 256

/-- The flags of `sub8` (40_execution_engine.md R116): CY the borrow, AC the carry out of bit 3 of
a + ~b + (1 − bin), which is no borrow from bit 4. -/
def DifferenceFlags (f : Flags) (a b : Byte) (bin : Bool) (r : Byte) : Prop :=
  f.cy = decide (a.toNat < b.toNat + bin.toNat)
    ∧ f.ac = decide (15 < a.toNat % 16 + (255 - b.toNat) % 16 + (1 - bin.toNat)) ∧ SzpSeen f r

/-- `r` is `sub8(a, b, bin)` (40_execution_engine.md R116; 45_alu.md R228). -/
def IsDifference (r a b : Byte) (bin : Bool) : Prop :=
  (r.toNat : Int) = ((a.toNat : Int) - b.toNat - bin.toNat) % 256

end Sys2Proof.Machine
end

