-- ==== Sys2Proof/Certificates/Slice0/Obligations.lean ====
section
/-! DEFINITION. The statements for the provers, from the numbered rules of spec/. A statement about an
instruction gives its encoding, that `exec` answers a next state, what that state holds, and its frame;
it holds in every state and for every parameter. Clauses about `draws`, the model's own counter of draws
(`DrawsFlags`, `t.draws = …`, a `Config` value at `s.draws`), are the model's choice (logs 5, 6, 16) and
formalise no rule; a statement about a free value holds whatever that value is. -/

open Sys2Proof Sys2Proof.Machine

/-! ## The decoder (30_encoding.md) -/

/-- Eleven byte sequences written out from 30_encoding.md R79 and R81 and 95_test_vectors.md sections 1 and
2; 0xDB is decoded under both values of `DECODE_EXTRA`. -/
def Obligations.SpecWordsDecode : Prop :=
  (decode true 0xC3 0x34 0x12).instr = .jmp 0x1234
    ∧ (decode true 0xC3 0x34 0x12).length = 3
    ∧ (decode true 0x32 0x00 0x20).instr = .sta 0x2000
    ∧ (decode true 0xBE 0x00 0x00).instr = .cmp .mem
    ∧ (decode true 0xBE 0x00 0x00).stage = .exact
    ∧ (decode true 0x46 0x00 0x00).instr = .mov (.reg .b) .mem
    ∧ (decode true 0x70 0x00 0x00).instr = .mov .mem (.reg .b)
    ∧ (decode true 0x82 0x00 0x00).instr = .add (.reg .d)
    ∧ (decode true 0x1A 0x00 0x00).instr = .ldax .de
    ∧ (decode true 0x31 0x00 0x24).instr = .lxi .sp 0x2400
    ∧ (decode true 0xF5 0x00 0x00).instr = .push .psw
    ∧ (decode true 0xDB 0x01 0x00).instr = .inp 0x01
    ∧ (decode false 0xDB 0x01 0x00).instr = .unrecognized 0xDB
    ∧ (decode true 0xCB 0x00 0x20).instr = .unrecognized 0xCB

/-- Decode of encode is the instruction (30_encoding.md R70 to R90): no operand bit of any well-formed
instruction is lost, whatever bytes follow it. -/
def Obligations.DecodeOfEncodeIsTheInstruction : Prop :=
  ∀ (decodeExtra : Bool) (i : Instr), i.wf decodeExtra = true →
    ∀ b0 b1 b2 : Byte, encode i <+: [b0, b1, b2] →
      (decode decodeExtra b0 b1 b2).instr = i ∧ (decode decodeExtra b0 b1 b2).length = (encode i).length

/-- Every byte sequence decodes to one well-formed instruction, and the bytes it consumes are that
instruction's encoding (30_encoding.md R73, R74, R90). -/
def Obligations.DecodedBytesAreTheEncoding : Prop :=
  ∀ (decodeExtra : Bool) (b0 b1 b2 : Byte),
    let d := decode decodeExtra b0 b1 b2
    d.instr.wf decodeExtra = true ∧ encode d.instr = [b0, b1, b2].take d.length
      ∧ d.length ∈ [1, 2, 3] ∧ d.opcode = b0
      ∧ d.imm8 = (if d.length = 2 then some b1 else none)
      ∧ d.imm16 = (if d.length = 3 then some (cat16 b2 b1) else none)

/-- 30_encoding.md R82: no byte matches two families, so the order of stage 2 changes no result; the only
bytes that match both an exact entry and a family are those of R80. -/
def Obligations.MaskedFamiliesAreDisjoint : Prop :=
  familyTable.length = 24
    ∧ familyTable.Pairwise (fun f g => ∀ op : Byte, ¬ (f.matches op = true ∧ g.matches op = true))
    ∧ (∀ table : List FamilyRow, table.Perm familyTable → ∀ op : Byte,
        (table.find? (fun f => f.matches op)).map FamilyRow.family
          = (familyTable.find? (fun f => f.matches op)).map FamilyRow.family)
    ∧ (∀ r ∈ exactTable, ∀ f ∈ familyTable, f.matches r.opcode = true → r.opcode = 0x76 ∨ r.opcode = 0xBE)

/-- 30_encoding.md R80, R96: stage 1 wins, the only exact entries a family also matches are HLT and CMP M,
and 0xBE gives form CMP M at stage exact, the instruction its family would give too. -/
def Obligations.ExactTableTakesPrecedence : Prop :=
  (∀ (decodeExtra : Bool) (r : ExactRow) (b1 b2 : Byte), r ∈ exactTable →
      r.matches decodeExtra r.opcode = true →
      (decode decodeExtra r.opcode b1 b2).stage = .exact
        ∧ (decode decodeExtra r.opcode b1 b2).instr = r.build b1 b2)
    ∧ (∀ r ∈ exactTable, ∀ f ∈ familyTable, f.matches r.opcode = true ↔
        (r.opcode = 0x76 ∧ f.family = .mov) ∨ (r.opcode = 0xBE ∧ f.family = .cmp))
    ∧ (∀ f ∈ familyTable, ∀ b1 b2 : Byte, f.matches 0xBE = true → f.build 0xBE b1 b2 = .cmp .mem)
    ∧ (∀ (decodeExtra : Bool) (b1 b2 : Byte),
        (decode decodeExtra 0x76 b1 b2).instr = .hlt
          ∧ (decode decodeExtra 0x76 b1 b2).stage = .exact
          ∧ (decode decodeExtra 0xBE b1 b2).instr = .cmp .mem
          ∧ (decode decodeExtra 0xBE b1 b2).form = .cmpM
          ∧ (decode decodeExtra 0xBE b1 b2).stage = .exact
          ∧ (decode decodeExtra 0xBE b1 b2).fields.sss = some 6)

/-- 30_encoding.md R84, R85: which bytes no stage matches, and what the decoder says of them; and that
`DECODE_EXTRA` decides the four bytes of R85 and nothing else. -/
def Obligations.UnrecognizedBytesAreTwelveOrSixteen : Prop :=
  (∀ (decodeExtra : Bool) (b0 b1 b2 : Byte),
    let d := decode decodeExtra b0 b1 b2
    (d.stage = .unmatched ↔
      b0 ∈ ([0x08, 0x10, 0x18, 0x20, 0x28, 0x30, 0x38, 0xCB, 0xD9, 0xDD, 0xED, 0xFD] : List Byte)
        ∨ (decodeExtra = false ∧ b0 ∈ ([0x27, 0xD3, 0xDB, 0xF9] : List Byte)))
      ∧ (d.stage = .unmatched ↔ d.form = .unrecognized)
      ∧ (d.stage = .unmatched → d.instr = .unrecognized b0 ∧ d.length = 1
          ∧ d.fields = { ddd := none, sss := none, rp := none, ccc := none, nnn := none }
          ∧ d.imm8 = none ∧ d.imm16 = none))
  ∧ ∀ b0 b1 b2 : Byte,
    (b0 ∈ ([0x27, 0xD3, 0xDB, 0xF9] : List Byte) →
      (decode true b0 b1 b2).stage = .exact ∧ ∀ f ∈ familyTable, f.matches b0 = false)
    ∧ (b0 ∉ ([0x27, 0xD3, 0xDB, 0xF9] : List Byte) → decode false b0 b1 b2 = decode true b0 b1 b2)

/-- 30_encoding.md R89: the length of every decoded record, by its form. -/
def Obligations.LengthIsDeterminedByForm : Prop :=
  ∀ (decodeExtra : Bool) (b0 b1 b2 : Byte),
    let d := decode decodeExtra b0 b1 b2
    (d.length = 3 ↔ d.form ∈
        ([.jmp, .call, .jcc, .ccc, .lxi, .lda, .sta, .lhld, .shld] : List Form))
      ∧ (d.length = 2 ↔ d.form ∈
        ([.mviR, .mviM, .adi, .aci, .sui, .sbi, .ani, .xri, .ori, .cpi, .inp, .out] : List Form))
      ∧ (d.length = 1 ↔ ¬ (d.length = 3 ∨ d.length = 2))

/-! ## Steps and runs (40_execution_engine.md, 60_exceptions.md, 70_reset_and_hazards.md) -/

/-- 70_reset_and_hazards.md R290: what the creation of the machine state sets, for every choice of the
open values: every field of State has a clause. That the parameters stand in State (log 1), that trace,
diagnostics, port events and event history start empty (log 10), and that the model's own counter `draws`
starts at 0 (log 5) is the model's choice and no rule's. -/
def Obligations.PowerOnSetsEveryField : Prop :=
  ∀ (params : Params) (initRegs : Regs) (initFlags : Flags) (initMem : Memory),
    let s := State.powerOn params initRegs initFlags initMem
    s.sp = 0xFFFF ∧ s.pc = params.startPc ∧ s.stall = 0 ∧ s.halted = false ∧ s.inte = false
      ∧ s.regs = initRegs ∧ s.flags = initFlags ∧ (∀ a : Word, s.readByte a = initMem.read a.toNat)
      ∧ s.params = params ∧ s.trace = [] ∧ s.diags = [] ∧ s.io = [] ∧ s.accesses = [] ∧ s.draws = 0
      ∧ Params.default.startPc = 0x0000

/-- 70_reset_and_hazards.md R293: byte i of the buffer is at address i, for i below its length and below
65536; every other address holds what it held. -/
def Obligations.LoaderPlacesTheBuffer : Prop :=
  ∀ (s : State) (buffer : List Byte) (a : Word),
    (s.load buffer).readByte a = (buffer[a.toNat]?).getD (s.readByte a)
      ∧ (s.load buffer) = { s with mem := (s.load buffer).mem }
      ∧ (s.mem.wf → (s.load buffer).mem.wf)

/-- The invariant holds in every state that reset makes, `State.reset` among them. -/
def Obligations.InvariantHoldsAtReset : Prop :=
  State.reset.Inv
    ∧ ∀ (params : Params) (initRegs : Regs) (initFlags : Flags) (initMem : Memory),
        initMem.wf → (State.powerOn params initRegs initFlags initMem).Inv

/-- Every step keeps the invariant: canonical memory, the diagnostic log the trace's, traced bytes the
encoding of a well-formed instruction, the fetch history the traced bytes, an ended run ended by HLT,
the stall at most 4 with the default table (10_state.md R30; 60_exceptions.md R271, R275). -/
def Obligations.EveryStepKeepsTheInvariant : Prop :=
  ∀ s s' : State, s.Inv → step s = .next s' → s'.Inv

/-- 40_execution_engine.md R110: an instruction step is `exec` of the instruction decoded at pc, then the
stall of the table and the trace record. -/
def Obligations.StepRunsTheDecodedInstruction : Prop :=
  ∀ (s t : State) (i : Instr), s.halted = false → s.stall = 0 →
    (decode s.params.decodeExtra (s.readByte s.pc) (s.readByte (s.pc + 1)) (s.readByte (s.pc + 2))).instr = i →
    exec i s = .next t →
    ∃ s', step s = .next s'
      ∧ s'.stall = stallOf s.params i.form (match i.cond with
          | some cc => conditionSeen s cc
          | none => false)
      ∧ (∃ r, s'.trace = t.trace ++ [r] ∧ r.pc = s.pc ∧ r.decoded.instr = i)
      ∧ { s' with stall := t.stall, trace := t.trace, accesses := t.accesses } = t

/-- 40_execution_engine.md R110, the two other steps: a pending stall is counted down and nothing else
changes; a halted block has no step (that the answer is the refusal `runEnded` is the model's, log 8). -/
def Obligations.StallStepOnlyCountsDown : Prop :=
  ∀ s : State,
    (s.halted = false → 0 < s.stall →
      ∃ t, step s = .next t ∧ t.stall + 1 = s.stall ∧ { t with stall := s.stall } = s)
    ∧ (s.halted = true → step s = .refused .runEnded)

/-- 40_execution_engine.md R122: no instruction faults; every decoded record has exactly one successor,
and so has every state that is not halted. -/
def Obligations.NoInstructionFaults : Prop :=
  (∀ (i : Instr) (s : State), ∃ t, exec i s = .next t)
    ∧ (∀ s : State, s.halted = false → ∃ t, step s = .next t)
    ∧ (∀ (s : State) (r : Fault), step s ≠ .fault r)

/-- 40_execution_engine.md R112: the next pc is pc + length for every form that does not redirect, and the
branch target for one that does. -/
def Obligations.ProgramCounterSequencing : Prop :=
  ∀ (i : Instr) (s : State), ∃ t, exec i s = .next t ∧
    t.pc = match i with
      | .jmp a | .call a => a
      | .jnz a | .cnz a => if conditionSeen s .nz then a else s.pc + 3
      | .jz a | .cz a => if conditionSeen s .z then a else s.pc + 3
      | .jnc a | .cnc a => if conditionSeen s .nc then a else s.pc + 3
      | .jc a | .cc a => if conditionSeen s .c then a else s.pc + 3
      | .jpo a | .cpo a => if conditionSeen s .po then a else s.pc + 3
      | .jpe a | .cpe a => if conditionSeen s .pe then a else s.pc + 3
      | .jp a | .cp a => if conditionSeen s .p then a else s.pc + 3
      | .jm a | .cm a => if conditionSeen s .m then a else s.pc + 3
      | .ret => cat16 (s.readByte (s.sp + 1)) (s.readByte s.sp)
      | .rnz => if conditionSeen s .nz then cat16 (s.readByte (s.sp + 1)) (s.readByte s.sp) else s.pc + 1
      | .rz => if conditionSeen s .z then cat16 (s.readByte (s.sp + 1)) (s.readByte s.sp) else s.pc + 1
      | .rnc => if conditionSeen s .nc then cat16 (s.readByte (s.sp + 1)) (s.readByte s.sp) else s.pc + 1
      | .rc => if conditionSeen s .c then cat16 (s.readByte (s.sp + 1)) (s.readByte s.sp) else s.pc + 1
      | .rpo => if conditionSeen s .po then cat16 (s.readByte (s.sp + 1)) (s.readByte s.sp) else s.pc + 1
      | .rpe => if conditionSeen s .pe then cat16 (s.readByte (s.sp + 1)) (s.readByte s.sp) else s.pc + 1
      | .rp => if conditionSeen s .p then cat16 (s.readByte (s.sp + 1)) (s.readByte s.sp) else s.pc + 1
      | .rm => if conditionSeen s .m then cat16 (s.readByte (s.sp + 1)) (s.readByte s.sp) else s.pc + 1
      | .rst n => BitVec.ofNat 16 (n.toNat * 8)
      | .pchl => cat16 s.regs.h s.regs.l
      | j => s.pc + BitVec.ofNat 16 (encode j).length

/-- 70_reset_and_hazards.md R298: the default stall table, that any table is admitted, and that an
executed instruction sets `stall` to its value. -/
def Obligations.StallTableIsTheDefaultOrAnyOther : Prop :=
  (∀ (p : Params) (f : Form) (taken : Bool), p.stallRows = [] →
    (f ∈ ([.nop, .ei, .di, .hlt, .unrecognized, .movRR, .xchg, .sphl, .pchl, .inx, .dcx, .rlc, .rrc, .ral,
        .rar, .cma, .stc, .cmc, .daa, .addR, .adcR, .subR, .sbbR, .anaR, .xraR, .oraR, .cmpR, .inrR,
        .dcrR] : List Form) → stallOf p f taken = 0)
    ∧ (f ∈ ([.movRM, .movMR, .addM, .adcM, .subM, .sbbM, .anaM, .xraM, .oraM, .cmpM, .adi, .aci, .sui,
        .sbi, .ani, .xri, .ori, .cpi, .mviR, .ldax, .stax] : List Form) → stallOf p f taken = 1)
    ∧ (f ∈ ([.mviM, .inrM, .dcrM, .lxi, .dad, .jmp, .jcc, .ret, .rst, .pushRp, .pushPsw, .popRp, .popPsw,
        .inp, .out] : List Form) → stallOf p f taken = 2)
    ∧ (f ∈ ([.lda, .sta] : List Form) → stallOf p f taken = 3)
    ∧ (f ∈ ([.lhld, .shld, .call, .xthl] : List Form) → stallOf p f taken = 4)
    ∧ (f = .ccc → stallOf p f taken = if taken then 4 else 2)
    ∧ (f = .rcc → stallOf p f taken = if taken then 2 else 0))
  ∧ (∀ (p : Params) (table : Form → Bool → Nat), ∃ rows : List StallRow,
      ∀ (f : Form) (taken : Bool), stallOf { p with stallRows := rows } f taken = table f taken)
  ∧ ∀ s t : State, s.halted = false → s.stall = 0 → step s = .next t →
      t.stall = stallOf s.params s.fetched.form ((s.fetched.instr.cond.map (conditionSeen s)).getD false)

/-- 70_reset_and_hazards.md R300: two states that differ only in stall and stall table run alike: whatever
state one reaches, the other reaches the same but for stall and table, the same trace, diagnostics and
port events with it; a pending stall is that many steps that change nothing else; and the next instruction
runs in the step numbered the table's value plus 1. -/
def Obligations.StallHasNoArchitecturalEffect : Prop :=
  (∀ (s u : State), s.withoutTiming = u.withoutTiming →
    ∀ (k : Nat) (s' : State), Host.Core.run Sys2Proof.core k s = .next s' →
      ∃ (k' : Nat) (u' : State), Host.Core.run Sys2Proof.core k' u = .next u'
        ∧ s'.withoutTiming = u'.withoutTiming)
  ∧ (∀ s : State, s.halted = false →
      Host.Core.run Sys2Proof.core s.stall s = .next { s with stall := 0 })
  ∧ ∀ s t : State, s.halted = false → s.stall = 0 → step s = .next t → t.halted = false →
      Host.Core.run Sys2Proof.core
          (stallOf s.params s.fetched.form ((s.fetched.instr.cond.map (conditionSeen s)).getD false) + 1) t
        = step { t with stall := 0 }

/-- 40_execution_engine.md R119: under `FLAG_MODEL = unmodelled` no step writes the flag field, and no
step's outcome depends on it: the machine has no flag state. -/
def Obligations.UnmodelledFlagsAreNoState : Prop :=
  ∀ (s t : State) (f : Flags), s.params.flagModel = .unmodelled → step s = .next t →
    t.flags = s.flags ∧ step { s with flags := f } = .next { t with flags := f }

/-- 60_exceptions.md R275 and R271: the trace record of an instruction step and its diagnostic; a form
without an effective address records none. That a stack form's effective address is the SP at the access,
and that a call or return not taken has none, is the model's choice (log 11). -/
def Obligations.TraceRecordOfAnInstructionStep : Prop :=
  ∀ s : State, s.halted = false → s.stall = 0 →
    let d := decode s.params.decodeExtra (s.readByte s.pc) (s.readByte (s.pc + 1)) (s.readByte (s.pc + 2))
    ∃ (t : State) (r : TraceRecord), step s = .next t
      ∧ t.trace = s.trace ++ [r] ∧ t.diags = s.diags ++ r.diag.toList
      ∧ r.pc = s.pc ∧ r.decoded = d
      ∧ r.bytes = [s.readByte s.pc, s.readByte (s.pc + 1), s.readByte (s.pc + 2)].take d.length
      ∧ r.taken = d.instr.cond.map (conditionSeen s)
      ∧ (d.form = .unrecognized → r.diag = some { opcode := s.readByte s.pc, pc := s.pc })
      ∧ (d.form ≠ .unrecognized → r.diag = none)
      ∧ (d.form ∈ ([.addM, .adcM, .subM, .sbbM, .anaM, .xraM, .oraM, .cmpM, .inrM, .dcrM, .movRM, .movMR,
            .mviM] : List Form) → r.ea = some (cat16 s.regs.h s.regs.l))
      ∧ (∀ p, d.instr = .ldax p ∨ d.instr = .stax p → r.ea = some (indexSeen s p))
      ∧ (∀ a, d.instr = .lda a ∨ d.instr = .sta a ∨ d.instr = .lhld a ∨ d.instr = .shld a → r.ea = some a)
      ∧ (d.form ∈ ([.popRp, .popPsw, .xthl, .ret] : List Form) ∨ (d.form = .rcc ∧ r.taken = some true) →
            r.ea = some s.sp)
      ∧ (d.form ∈ ([.pushRp, .pushPsw, .call, .rst] : List Form) ∨ (d.form = .ccc ∧ r.taken = some true) →
            r.ea = some (s.sp - 2))
      ∧ (d.form ∉ ([.addM, .adcM, .subM, .sbbM, .anaM, .xraM, .oraM, .cmpM, .inrM, .dcrM, .movRM, .movMR,
            .mviM, .ldax, .stax, .lda, .sta, .lhld, .shld, .popRp, .popPsw, .xthl, .ret, .rcc, .pushRp,
            .pushPsw, .call, .rst, .ccc] : List Form) → r.ea = none)
      ∧ (r.taken = some false → r.ea = none)

/-- 20_memory.md R57 and R66: the byte accesses of each instruction and their addresses, in order, the
fetches before them. -/
def Obligations.AccessWidthsPerInstruction : Prop :=
  (∀ (s : State) (i : Instr), i.wf true = true →
    let made := (s.dataAccesses i).map (fun x => (x.kind, x.addr))
    let hl := cat16 s.regs.h s.regs.l
    let taken := i.cond.map (conditionSeen s)
    (i.form ∈ ([.movRM, .addM, .adcM, .subM, .sbbM, .anaM, .xraM, .oraM, .cmpM] : List Form) →
        made = [(.load, hl)])
    ∧ (∀ a, i = .lda a → made = [(.load, a)]) ∧ (∀ p, i = .ldax p → made = [(.load, indexSeen s p)])
    ∧ (i.form ∈ ([.movMR, .mviM] : List Form) → made = [(.store, hl)])
    ∧ (∀ a, i = .sta a → made = [(.store, a)]) ∧ (∀ p, i = .stax p → made = [(.store, indexSeen s p)])
    ∧ (i.form ∈ ([.inrM, .dcrM] : List Form) → made = [(.load, hl), (.store, hl)])
    ∧ (∀ a, i = .lhld a → made = [(.load, a), (.load, a + 1)])
    ∧ (∀ a, i = .shld a → made = [(.store, a), (.store, a + 1)])
    ∧ (i.form ∈ ([.popRp, .popPsw, .ret] : List Form) ∨ (i.form = .rcc ∧ taken = some true) →
        made = [(.load, s.sp), (.load, s.sp + 1)])
    ∧ (i.form ∈ ([.pushRp, .pushPsw, .call, .rst] : List Form) ∨ (i.form = .ccc ∧ taken = some true) →
        made = [(.store, s.sp - 2), (.store, s.sp - 2 + 1)])
    ∧ (i.form = .xthl →
        made = [(.load, s.sp), (.load, s.sp + 1), (.store, s.sp), (.store, s.sp + 1)])
    ∧ (i.form ∉ ([.movRM, .addM, .adcM, .subM, .sbbM, .anaM, .xraM, .oraM, .cmpM, .lda, .ldax, .movMR, .mviM,
          .sta, .stax, .inrM, .dcrM, .lhld, .popRp, .popPsw, .ret, .rcc, .shld, .pushRp, .pushPsw, .call,
          .rst, .ccc, .xthl] : List Form) → made = [])
    ∧ (taken = some false → made = []))
  ∧ ∀ s t : State, s.halted = false → s.stall = 0 → step s = .next t →
      t.accesses.map (fun x => (x.kind, x.addr))
        = s.accesses.map (fun x => (x.kind, x.addr))
          ++ ([s.pc, s.pc + 1, s.pc + 2].take s.fetched.length).map (fun a => (AccessKind.fetch, a))
          ++ (s.dataAccesses s.fetched.instr).map (fun x => (x.kind, x.addr))

/-- The event history accounts for memory (20_memory.md R61, R66): every load records the byte that stood
there, and after an instruction each byte is the last one its stores wrote there, or the old one. -/
def Obligations.MemoryIsTheReplayOfItsStores : Prop :=
  ∀ (i : Instr) (s t : State), exec i s = .next t →
    (∀ x ∈ s.dataAccesses i, x.kind = .load → x.value = s.readByte x.addr)
    ∧ ∀ a : Word, t.readByte a =
        match ((s.dataAccesses i).filter (fun x => x.kind == .store && x.addr == a)).getLast? with
        | some x => x.value
        | none => s.readByte a

/-! ## Whole-machine rules: who may change what -/

/-- 10_state.md R24: only the forms R24 lists write SP; the conditional ones only when taken. -/
def Obligations.OnlyStackFormsWriteSp : Prop :=
  ∀ (i : Instr) (s t : State), exec i s = .next t → t.sp ≠ s.sp →
    i.form ∈ ([.pushRp, .pushPsw, .popRp, .popPsw, .call, .ret, .rst, .sphl] : List Form)
      ∨ (i.form ∈ ([.ccc, .rcc] : List Form) ∧ i.cond.map (conditionSeen s) = some true)
      ∨ (∃ w, i = .lxi .sp w) ∨ i = .inx .sp ∨ i = .dcx .sp

/-- 10_state.md R28, R29, R34 and section 8; 48_io.md R262; 60_exceptions.md R271: which forms write INTE,
`halted`, the port events and the diagnostic log; no instruction writes the parameters, the stall or the
trace. -/
def Obligations.ControlStateHasFewWriters : Prop :=
  ∀ (i : Instr) (s t : State), exec i s = .next t →
    (t.inte ≠ s.inte → i = .ei ∨ i = .di)
    ∧ (t.halted ≠ s.halted → i = .hlt)
    ∧ (t.io ≠ s.io → i.form ∈ ([.inp, .out] : List Form))
    ∧ (t.diags ≠ s.diags → i.form = .unrecognized)
    ∧ (t.draws ≠ s.draws → i.form = .inp ∨ s.params.flagModel = .unmodelled)
    ∧ t.params = s.params ∧ t.stall = s.stall ∧ t.trace = s.trace

/-- 40_execution_engine.md R123: which forms write which flag, and the flags a form forces. -/
def Obligations.FlagSummary : Prop :=
  ∀ (i : Instr) (s t : State), s.params.flagModel = .intel8080 → exec i s = .next t →
    let all : List Form := [.addR, .addM, .adcR, .adcM, .subR, .subM, .sbbR, .sbbM, .cmpR, .cmpM, .adi, .aci,
      .sui, .sbi, .cpi, .daa, .popPsw]
    let logic : List Form := [.anaR, .anaM, .ani]
    let logic0 : List Form := [.xraR, .xraM, .xri, .oraR, .oraM, .ori]
    let step1 : List Form := [.inrR, .inrM, .dcrR, .dcrM]
    let carry : List Form := [.dad, .rlc, .rrc, .ral, .rar, .stc, .cmc]
    (i.form ∉ all ++ logic ++ logic0 ++ step1 →
        t.flags.s = s.flags.s ∧ t.flags.z = s.flags.z ∧ t.flags.ac = s.flags.ac ∧ t.flags.p = s.flags.p)
    ∧ (i.form ∉ all ++ logic ++ logic0 ++ carry → t.flags.cy = s.flags.cy)
    ∧ (i.form ∈ logic ++ logic0 → t.flags.cy = false)
    ∧ (i.form ∈ logic0 → t.flags.ac = false)
    ∧ (i.form = .stc → t.flags.cy = true)

/-- 10_state.md section 8, "Who writes which register". -/
def Obligations.RegistersHaveTheListedWriters : Prop :=
  ∀ (i : Instr) (s t : State), exec i s = .next t →
    (t.regs.a ≠ s.regs.a →
      (∃ x, i = .mov (.reg .a) x) ∨ (∃ v, i = .mvi (.reg .a) v) ∨ i = .inr (.reg .a) ∨ i = .dcr (.reg .a)
        ∨ i.form ∈ ([.lda, .ldax, .addR, .addM, .adi, .adcR, .adcM, .aci, .subR, .subM, .sui, .sbbR, .sbbM, .sbi,
            .anaR, .anaM, .ani, .xraR, .xraM, .xri, .oraR, .oraM, .ori, .rlc, .rrc, .ral, .rar, .cma, .daa,
            .popPsw, .inp] : List Form))
    ∧ (∀ r : Reg, r ∈ ([.b, .c, .d, .e] : List Reg) → t.regs.get r ≠ s.regs.get r →
        (∃ x, i = .mov (.reg r) x) ∨ (∃ v, i = .mvi (.reg r) v) ∨ i = .inr (.reg r) ∨ i = .dcr (.reg r)
          ∨ (∃ p, r ∈ pairRegs p ∧ ((∃ w, i = .lxi p w) ∨ i = .inx p ∨ i = .dcx p))
          ∨ (r ∈ ([.b, .c] : List Reg) ∧ i = .pop .bc) ∨ (r ∈ ([.d, .e] : List Reg) ∧ (i = .pop .de ∨ i = .xchg)))
    ∧ (∀ r : Reg, r ∈ ([.h, .l] : List Reg) → t.regs.get r ≠ s.regs.get r →
        (∃ x, i = .mov (.reg r) x) ∨ (∃ v, i = .mvi (.reg r) v) ∨ i = .inr (.reg r) ∨ i = .dcr (.reg r)
          ∨ (∃ w, i = .lxi .hl w) ∨ i = .inx .hl ∨ i = .dcx .hl ∨ i = .pop .hl
          ∨ i.form ∈ ([.dad, .lhld, .xchg, .xthl] : List Form))

/-! ## Memory (20_memory.md) -/

/-- 20_memory.md R51, R52, R55: reads and writes of one and two bytes, at every address, the second byte
wrapping from 0xFFFF to 0x0000; a write keeps the canonical form. -/
def Obligations.MemoryReadsBackWhatWasWritten : Prop :=
  ∀ (s : State) (a b : Word) (v l h : Byte) (w : Word),
    (s.writeByte a v).readByte b = (if b = a then v else s.readByte b)
    ∧ (s.readWord a).toNat = (s.readByte (a + 1)).toNat * 256 + (s.readByte a).toNat
    ∧ ((s.writeWord a w).readByte a).toNat = w.toNat % 256
    ∧ ((s.writeWord a w).readByte (a + 1)).toNat = w.toNat / 256
    ∧ (s.writeWord a w).readWord a = w
    ∧ ((s.writeByte a l).writeByte (a + 1) h).readWord a = cat16 h l
    ∧ (b ≠ a → b ≠ a + 1 → (s.writeWord a w).readByte b = s.readByte b)
    ∧ (s.mem.wf → (s.writeByte a v).mem.wf ∧ (s.writeWord a w).mem.wf)

/-- 20_memory.md R63 and 70_reset_and_hazards.md R297: the storing instruction runs as fetched, and the
next fetch sees what it stored. For every instruction and every byte it stores: the byte stands in memory
after the step, and where it is one of the bytes of the next instruction, that one is decoded and traced
with it. STA over the byte after itself is the second clause, at every pc. -/
def Obligations.StoreIsSeenByTheNextFetch : Prop :=
  (∀ s : State, s.halted = false → s.stall = 0 →
    let d := decode s.params.decodeExtra (s.readByte s.pc) (s.readByte (s.pc + 1)) (s.readByte (s.pc + 2))
    ∃ (t : State) (r : TraceRecord), step s = .next t ∧ t.trace = s.trace ++ [r] ∧ r.decoded = d
      ∧ (∀ x ∈ s.dataAccesses d.instr, x.kind = .store → t.readByte x.addr = x.value)
      ∧ ∀ u, step { t with stall := 0 } = .next u →
          ∃ q, u.trace = t.trace ++ [q]
            ∧ q.decoded = decode s.params.decodeExtra (t.readByte t.pc) (t.readByte (t.pc + 1))
                (t.readByte (t.pc + 2))
            ∧ ∀ x ∈ s.dataAccesses d.instr, x.kind = .store →
                (x.addr = t.pc → q.decoded.opcode = x.value)
                ∧ ∀ k < q.decoded.length, x.addr = t.pc + BitVec.ofNat 16 k → q.bytes[k]? = some x.value)
  ∧ ∀ s : State, s.halted = false → s.stall = 0 →
    (decode s.params.decodeExtra (s.readByte s.pc) (s.readByte (s.pc + 1)) (s.readByte (s.pc + 2))).instr
      = .sta (s.pc + 3) →
    ∃ t, step s = .next t ∧ t.pc = s.pc + 3 ∧ t.readByte t.pc = s.regs.a
      ∧ ∀ b1 b2 : Byte, b1 = t.readByte (t.pc + 1) → b2 = t.readByte (t.pc + 2) →
          ∀ u, step { t with stall := 0 } = .next u →
            ∃ r, u.trace = t.trace ++ [r] ∧ r.decoded = decode s.params.decodeExtra s.regs.a b1 b2

/-- 43_stack_exchange.md R180: push then pop restores the pair and SP, at every SP, and for PSW A and the
five flags; the pushed value stays in memory. The flag clause is for the flag model that has flags. -/
def Obligations.PopUndoesPush : Prop :=
  ∀ (s t : State) (p : StackPair), exec (.push p) s = .next t →
    ∃ u, exec (.pop p) t = .next u ∧ u.sp = s.sp ∧ u.regs = s.regs
      ∧ (s.params.flagModel = .intel8080 → u.flags = s.flags)
      ∧ (∀ a : Word, u.readByte a = t.readByte a)
      ∧ u.readByte (s.sp - 1) = (match p with
          | .bc => s.regs.b
          | .de => s.regs.d
          | .hl => s.regs.h
          | .psw => s.regs.a)
      ∧ (p = .bc → u.readByte (s.sp - 2) = s.regs.c) ∧ (p = .de → u.readByte (s.sp - 2) = s.regs.e)
      ∧ (p = .hl → u.readByte (s.sp - 2) = s.regs.l)

/-- 47_load_store.md R251: what a store wrote, the load of the same address reads back, whatever the
register held between. -/
def Obligations.LoadUndoesStore : Prop :=
  (∀ (s t : State) (a : Word) (v : Byte), exec (.sta a) s = .next t →
      ∃ u, exec (.lda a) (t.setReg .a v) = .next u ∧ u.regs = s.regs)
  ∧ (∀ (s t : State) (a : Word) (h l : Byte), exec (.shld a) s = .next t →
      ∃ u, exec (.lhld a) ((t.setReg .h h).setReg .l l) = .next u ∧ u.regs = s.regs)
  ∧ (∀ (s t : State) (p : IndexPair) (v : Byte), exec (.stax p) s = .next t →
      ∃ u, exec (.ldax p) (t.setReg .a v) = .next u ∧ u.regs = s.regs)
  ∧ (∀ (s t : State) (r : Reg) (v : Byte), exec (.mov .mem (.reg r)) s = .next t →
      (r ≠ .h → r ≠ .l →
        ∃ u, exec (.mov (.reg r) .mem) (t.setReg r v) = .next u ∧ u.regs = s.regs)
      ∧ ∃ u, exec (.mov (.reg r) .mem) t = .next u ∧ u.regs = s.regs)

/-! ## Machine control (41_machine_control.md) and the unrecognized byte -/

/-- 41_machine_control.md R140, R142, R143: NOP changes pc only; EI and DI write INTE and pc only. -/
def Obligations.NopEiDiWriteAtMostInte : Prop :=
  EncodedAs .nop [0x00] .exact ∧ EncodedAs .ei [0xFB] .exact ∧ EncodedAs .di [0xF3] .exact
    ∧ ∀ (s : State) (i : Instr) (v : Bool),
        (i, v) ∈ [(Instr.nop, s.inte), (.ei, true), (.di, false)] →
        ∃ t, exec i s = .next t ∧ t.inte = v ∧ t.pc = s.pc + 1 ∧ t.sp = s.sp ∧ t.flags = s.flags
          ∧ t.draws = s.draws ∧ Frame s { t with inte := s.inte } [] []

/-- 41_machine_control.md R141: HLT halts, and no later step exists (the refusal's name is the model's,
log 8). -/
def Obligations.HltEndsTheRun : Prop :=
  EncodedAs .hlt [0x76] .exact
    ∧ ∀ s : State, ∃ t, exec .hlt s = .next t ∧ t.halted = true ∧ t.pc = s.pc + 1 ∧ t.sp = s.sp
        ∧ t.flags = s.flags ∧ t.draws = s.draws ∧ Frame s { t with halted := s.halted } [] []
        ∧ step t = .refused .runEnded

/-- 40_execution_engine.md R124: the diagnostic `Unrecognized(opcode, pc)` and a one-byte skip. -/
def Obligations.UnrecognizedIsReportedAndSkipped : Prop :=
  ∀ (s : State) (op : Byte),
    EncodedAs (.unrecognized op) [op] .unmatched
    ∧ ∃ t, exec (.unrecognized op) s = .next t ∧ t.diags = s.diags ++ [{ opcode := op, pc := s.pc }]
        ∧ t.pc = s.pc + 1 ∧ t.sp = s.sp ∧ t.flags = s.flags ∧ t.draws = s.draws
        ∧ Frame s { t with diags := s.diags } [] []

/-! ## Control transfer (42_control_transfer.md) -/

/-- 42_control_transfer.md R150, R157. -/
def Obligations.JumpsSetThePc : Prop :=
  (∀ b1 b2 : Byte, EncodedAs (.jmp (cat16 b2 b1)) [0xC3, b1, b2] .exact) ∧ EncodedAs .pchl [0xE9] .exact
    ∧ (∀ (s : State) (target : Word), ∃ t, exec (.jmp target) s = .next t ∧ t.pc = target ∧ t.sp = s.sp
        ∧ t.flags = s.flags ∧ t.draws = s.draws ∧ Frame s t [] [])
    ∧ (∀ s : State, ∃ t, exec .pchl s = .next t ∧ t.pc = cat16 s.regs.h s.regs.l ∧ t.sp = s.sp
        ∧ t.flags = s.flags ∧ t.draws = s.draws ∧ Frame s t [] [])

/-- 42_control_transfer.md R151, with the conditions of 40_execution_engine.md R118. -/
def Obligations.ConditionalJumps : Prop :=
  ∀ (s : State) (b1 b2 : Byte) (target : Word) (i : Instr) (cc : Cond), target = cat16 b2 b1 →
    (i, cc) ∈ [(Instr.jnz target, Cond.nz), (.jz target, .z), (.jnc target, .nc), (.jc target, .c),
      (.jpo target, .po), (.jpe target, .pe), (.jp target, .p), (.jm target, .m)] →
    EncodedAs i [0xC2 + 8 * condSelector cc, b1, b2] (.masked .jcc)
    ∧ ∃ t, exec i s = .next t ∧ t.pc = (if conditionSeen s cc then target else s.pc + 3)
        ∧ t.sp = s.sp ∧ t.flags = s.flags ∧ DrawsFlags s t 1 ∧ Frame s t [] []

/-- 42_control_transfer.md R152, R156: the return address is pushed, low byte at the new SP; RST n goes to
n × 8. -/
def Obligations.CallAndRestartPushTheReturnAddress : Prop :=
  (∀ b1 b2 : Byte, EncodedAs (.call (cat16 b2 b1)) [0xCD, b1, b2] .exact)
    ∧ (∀ n : BitVec 3, EncodedAs (.rst n) [0xC7 + 8 * n.setWidth 8] (.masked .rst))
    ∧ ∀ (s : State) (i : Instr) (target ret : Word),
        (i = .call target ∧ ret = s.pc + 3)
          ∨ (∃ n : BitVec 3, i = .rst n ∧ target.toNat = n.toNat * 8 ∧ ret = s.pc + 1) →
        ∃ t, exec i s = .next t ∧ t.pc = target ∧ t.sp = s.sp - 2
          ∧ (t.readByte (s.sp - 2)).toNat = ret.toNat % 256
          ∧ (t.readByte (s.sp - 2 + 1)).toNat = ret.toNat / 256
          ∧ t.flags = s.flags ∧ t.draws = s.draws ∧ Frame s t [] [s.sp - 2, s.sp - 2 + 1]

/-- 42_control_transfer.md R153: taken as CALL; not taken, SP and memory stay. -/
def Obligations.ConditionalCalls : Prop :=
  ∀ (s : State) (b1 b2 : Byte) (target : Word) (i : Instr) (cc : Cond), target = cat16 b2 b1 →
    (i, cc) ∈ [(Instr.cnz target, Cond.nz), (.cz target, .z), (.cnc target, .nc), (.cc target, .c),
      (.cpo target, .po), (.cpe target, .pe), (.cp target, .p), (.cm target, .m)] →
    EncodedAs i [0xC4 + 8 * condSelector cc, b1, b2] (.masked .ccc)
    ∧ ∃ t, exec i s = .next t ∧ t.flags = s.flags ∧ DrawsFlags s t 1
        ∧ (conditionSeen s cc = true → t.pc = target ∧ t.sp = s.sp - 2
            ∧ (t.readByte (s.sp - 2)).toNat = (s.pc + 3).toNat % 256
            ∧ (t.readByte (s.sp - 2 + 1)).toNat = (s.pc + 3).toNat / 256
            ∧ Frame s t [] [s.sp - 2, s.sp - 2 + 1])
        ∧ (conditionSeen s cc = false → t.pc = s.pc + 3 ∧ t.sp = s.sp ∧ Frame s t [] [])

/-- 42_control_transfer.md R154, R155: the byte at SP is the low byte of the return address; a conditional
return not taken leaves SP and memory. -/
def Obligations.Returns : Prop :=
  EncodedAs .ret [0xC9] .exact
    ∧ (∀ s : State, ∃ t, exec .ret s = .next t
        ∧ t.pc.toNat = (s.readByte (s.sp + 1)).toNat * 256 + (s.readByte s.sp).toNat
        ∧ t.sp = s.sp + 2 ∧ t.flags = s.flags ∧ t.draws = s.draws ∧ Frame s t [] [])
    ∧ ∀ (s : State) (i : Instr) (cc : Cond),
        (i, cc) ∈ [(Instr.rnz, Cond.nz), (.rz, .z), (.rnc, .nc), (.rc, .c), (.rpo, .po), (.rpe, .pe),
          (.rp, .p), (.rm, .m)] →
        EncodedAs i [0xC0 + 8 * condSelector cc] (.masked .rcc)
        ∧ ∃ t, exec i s = .next t ∧ t.flags = s.flags ∧ DrawsFlags s t 1 ∧ Frame s t [] []
            ∧ (conditionSeen s cc = true →
                t.pc.toNat = (s.readByte (s.sp + 1)).toNat * 256 + (s.readByte s.sp).toNat
                ∧ t.sp = s.sp + 2)
            ∧ (conditionSeen s cc = false → t.pc = s.pc + 1 ∧ t.sp = s.sp)

/-! ## Stack and exchange (43_stack_exchange.md) -/

/-- 43_stack_exchange.md R172: the lower-indexed register goes to the higher address. -/
def Obligations.PushStoresThePair : Prop :=
  EncodedAs (.push .bc) [0xC5] (.masked .push) ∧ EncodedAs (.push .de) [0xD5] (.masked .push)
    ∧ EncodedAs (.push .hl) [0xE5] (.masked .push)
    ∧ ∀ (s : State) (p : StackPair) (high low : Byte),
        (p, high, low) ∈ [(StackPair.bc, s.regs.b, s.regs.c), (.de, s.regs.d, s.regs.e),
          (.hl, s.regs.h, s.regs.l)] →
        ∃ t, exec (.push p) s = .next t ∧ t.sp = s.sp - 2 ∧ t.readByte (s.sp - 2) = low
          ∧ t.readByte (s.sp - 2 + 1) = high ∧ t.pc = s.pc + 1 ∧ t.flags = s.flags ∧ t.draws = s.draws
          ∧ Frame s t [] [s.sp - 2, s.sp - 2 + 1]

/-- 43_stack_exchange.md R171, R173: PUSH PSW pushes A and the flag byte S Z 0 AC 0 P 1 CY, or under
`unmodelled` a draw (40_execution_engine.md R119). -/
def Obligations.PushPswStoresAAndTheFlagByte : Prop :=
  EncodedAs (.push .psw) [0xF5] (.masked .push)
    ∧ ∀ s : State, ∃ t, exec (.push .psw) s = .next t ∧ t.sp = s.sp - 2
        ∧ t.readByte (s.sp - 2 + 1) = s.regs.a
        ∧ (s.params.flagModel = .intel8080 → (t.readByte (s.sp - 2)).toNat =
            s.flags.s.toNat * 0x80 + s.flags.z.toNat * 0x40 + s.flags.ac.toNat * 0x10
              + s.flags.p.toNat * 0x04 + 0x02 + s.flags.cy.toNat)
        ∧ (s.params.flagModel = .unmodelled → t.readByte (s.sp - 2) = Config.drawByte s.draws)
        ∧ t.pc = s.pc + 1 ∧ t.flags = s.flags ∧ DrawsFlags s t 1
        ∧ Frame s t [] [s.sp - 2, s.sp - 2 + 1]

/-- 43_stack_exchange.md R174: the byte at SP goes to the higher-indexed register. -/
def Obligations.PopLoadsThePair : Prop :=
  EncodedAs (.pop .bc) [0xC1] (.masked .pop) ∧ EncodedAs (.pop .de) [0xD1] (.masked .pop)
    ∧ EncodedAs (.pop .hl) [0xE1] (.masked .pop)
    ∧ ∀ (s : State) (p : StackPair) (high low : Reg),
        (p, high, low) ∈ [(StackPair.bc, Reg.b, Reg.c), (.de, .d, .e), (.hl, .h, .l)] →
        ∃ t, exec (.pop p) s = .next t ∧ t.sp = s.sp + 2 ∧ t.regs.get low = s.readByte s.sp
          ∧ t.regs.get high = s.readByte (s.sp + 1) ∧ t.pc = s.pc + 1 ∧ t.flags = s.flags
          ∧ t.draws = s.draws ∧ Frame s t [high, low] []

/-- 43_stack_exchange.md R175: A from the high byte, the five flags from bits 7, 6, 4, 2, 0 of the low byte;
under `unmodelled` A only. -/
def Obligations.PopPswLoadsAAndTheFlags : Prop :=
  EncodedAs (.pop .psw) [0xF1] (.masked .pop)
    ∧ ∀ s : State, ∃ t, exec (.pop .psw) s = .next t ∧ t.sp = s.sp + 2
        ∧ t.regs.a = s.readByte (s.sp + 1)
        ∧ FlagsBecome s t (fun f =>
            f.s = (s.readByte s.sp).getLsbD 7 ∧ f.z = (s.readByte s.sp).getLsbD 6
              ∧ f.ac = (s.readByte s.sp).getLsbD 4 ∧ f.p = (s.readByte s.sp).getLsbD 2
              ∧ f.cy = (s.readByte s.sp).getLsbD 0)
        ∧ t.pc = s.pc + 1 ∧ t.draws = s.draws ∧ Frame s t [.a] []

/-- 43_stack_exchange.md R176, R177, R178. -/
def Obligations.ExchangesAndSphl : Prop :=
  EncodedAs .xthl [0xE3] .exact ∧ EncodedAs .xchg [0xEB] .exact ∧ EncodedAs .sphl [0xF9] .exact
    ∧ UnrecognizedWithoutExtra 0xF9
    ∧ (∀ s : State, ∃ t, exec .xthl s = .next t ∧ t.regs.l = s.readByte s.sp
        ∧ t.regs.h = s.readByte (s.sp + 1) ∧ t.readByte s.sp = s.regs.l
        ∧ t.readByte (s.sp + 1) = s.regs.h ∧ t.sp = s.sp ∧ t.pc = s.pc + 1 ∧ t.flags = s.flags
        ∧ t.draws = s.draws ∧ Frame s t [.h, .l] [s.sp, s.sp + 1])
    ∧ (∀ s : State, ∃ t, exec .xchg s = .next t ∧ t.regs.d = s.regs.h ∧ t.regs.e = s.regs.l
        ∧ t.regs.h = s.regs.d ∧ t.regs.l = s.regs.e ∧ t.sp = s.sp ∧ t.pc = s.pc + 1
        ∧ t.flags = s.flags ∧ t.draws = s.draws ∧ Frame s t [.d, .e, .h, .l] [])
    ∧ (∀ s : State, ∃ t, exec .sphl s = .next t ∧ t.sp = cat16 s.regs.h s.regs.l ∧ t.pc = s.pc + 1
        ∧ t.flags = s.flags ∧ t.draws = s.draws ∧ Frame s t [] [])

/-! ## Rotate, complement, carry, decimal adjust (44_rotate_carry.md) -/

/-- 44_rotate_carry.md R185 to R188, bit by bit: RLC and RRC rotate A, RAL and RAR rotate it through CY;
only CY is written of the flags. -/
def Obligations.RotatesMoveEveryBit : Prop :=
  EncodedAs .rlc [0x07] .exact ∧ EncodedAs .rrc [0x0F] .exact ∧ EncodedAs .ral [0x17] .exact
    ∧ EncodedAs .rar [0x1F] .exact
    ∧ (∀ (s : State) (i : Instr) (low : Bool) (n : Nat),
        (i, low, n) ∈ [(Instr.rlc, s.regs.a.getLsbD 7, 0), (.ral, carrySeen s, 1)] →
        ∃ t, exec i s = .next t ∧ (∀ k < 7, t.regs.a.getLsbD (k + 1) = s.regs.a.getLsbD k)
          ∧ t.regs.a.getLsbD 0 = low ∧ OnlyCarryBecomes s t (s.regs.a.getLsbD 7)
          ∧ t.pc = s.pc + 1 ∧ t.sp = s.sp ∧ DrawsFlags s t n ∧ Frame s t [.a] [])
    ∧ (∀ (s : State) (i : Instr) (high : Bool) (n : Nat),
        (i, high, n) ∈ [(Instr.rrc, s.regs.a.getLsbD 0, 0), (.rar, carrySeen s, 1)] →
        ∃ t, exec i s = .next t ∧ (∀ k < 7, t.regs.a.getLsbD k = s.regs.a.getLsbD (k + 1))
          ∧ t.regs.a.getLsbD 7 = high ∧ OnlyCarryBecomes s t (s.regs.a.getLsbD 0)
          ∧ t.pc = s.pc + 1 ∧ t.sp = s.sp ∧ DrawsFlags s t n ∧ Frame s t [.a] [])

/-- 44_rotate_carry.md R189, R190, R191. -/
def Obligations.ComplementAndCarryForms : Prop :=
  EncodedAs .cma [0x2F] .exact ∧ EncodedAs .stc [0x37] .exact ∧ EncodedAs .cmc [0x3F] .exact
    ∧ (∀ s : State, ∃ t, exec .cma s = .next t ∧ t.regs.a.toNat = 255 - s.regs.a.toNat
        ∧ t.pc = s.pc + 1 ∧ t.sp = s.sp ∧ t.flags = s.flags ∧ t.draws = s.draws ∧ Frame s t [.a] [])
    ∧ (∀ s : State, ∃ t, exec .stc s = .next t ∧ OnlyCarryBecomes s t true
        ∧ t.pc = s.pc + 1 ∧ t.sp = s.sp ∧ t.draws = s.draws ∧ Frame s t [] [])
    ∧ (∀ s : State, ∃ t, exec .cmc s = .next t ∧ OnlyCarryBecomes s t (!s.flags.cy)
        ∧ t.pc = s.pc + 1 ∧ t.sp = s.sp ∧ DrawsFlags s t 1 ∧ Frame s t [] [])

/-- 44_rotate_carry.md R192. Under `unmodelled` CY and AC are draws (40_execution_engine.md R119); that CY
is the first and AC the second is the model's choice (log 16). -/
def Obligations.DecimalAdjust : Prop :=
  EncodedAs .daa [0x27] .exact ∧ UnrecognizedWithoutExtra 0x27
    ∧ ∀ (s : State) (cy ac : Bool) (low high : Nat),
        (s.params.flagModel = .intel8080 → cy = s.flags.cy ∧ ac = s.flags.ac) →
        (s.params.flagModel = .unmodelled →
          cy = Config.drawBit s.draws ∧ ac = Config.drawBit (s.draws + 1)) →
        low = (if 9 < s.regs.a.toNat % 16 ∨ ac = true then 6 else 0) →
        high = (if 0x99 < s.regs.a.toNat ∨ cy = true then 0x60 else 0) →
        ∃ t, exec .daa s = .next t ∧ t.regs.a.toNat = (s.regs.a.toNat + high + low) % 256
          ∧ FlagsBecome s t (fun f => f.cy = (cy || decide (high = 0x60))
              ∧ f.ac = decide (15 < s.regs.a.toNat % 16 + low) ∧ SzpSeen f t.regs.a)
          ∧ t.pc = s.pc + 1 ∧ t.sp = s.sp ∧ DrawsFlags s t 2 ∧ Frame s t [.a] []

/-! ## 8-bit arithmetic and logic (45_alu.md) -/

/-- 45_alu.md R200 to R205, over `add8` (40_execution_engine.md R115). -/
def Obligations.AddFormsAddIntoA : Prop :=
  (∀ src : Operand, EncodedAs (.add src) [0x80 + selector src] (.masked .add)
      ∧ EncodedAs (.adc src) [0x88 + selector src] (.masked .adc))
    ∧ (∀ imm : Byte, EncodedAs (.adi imm) [0xC6, imm] .exact ∧ EncodedAs (.aci imm) [0xCE, imm] .exact)
    ∧ ∀ (s : State) (src : Operand) (imm v : Byte) (cin : Bool) (i : Instr) (len : Word) (n : Nat),
        (i, v, cin, len, n) ∈ [(Instr.add src, operandSeen s src, false, 1, 0),
          (.adc src, operandSeen s src, carrySeen s, 1, 1), (.adi imm, imm, false, 2, 0),
          (.aci imm, imm, carrySeen s, 2, 1)] →
        ∃ t, exec i s = .next t ∧ IsSum t.regs.a s.regs.a v cin
          ∧ FlagsBecome s t (fun f => SumFlags f s.regs.a v cin t.regs.a)
          ∧ t.pc = s.pc + len ∧ t.sp = s.sp ∧ DrawsFlags s t n ∧ Frame s t [.a] []

/-- 45_alu.md R206 to R211, over `sub8` (40_execution_engine.md R116). -/
def Obligations.SubtractFormsSubtractFromA : Prop :=
  (∀ src : Operand, EncodedAs (.sub src) [0x90 + selector src] (.masked .sub)
      ∧ EncodedAs (.sbb src) [0x98 + selector src] (.masked .sbb))
    ∧ (∀ imm : Byte, EncodedAs (.sui imm) [0xD6, imm] .exact ∧ EncodedAs (.sbi imm) [0xDE, imm] .exact)
    ∧ ∀ (s : State) (src : Operand) (imm v : Byte) (bin : Bool) (i : Instr) (len : Word) (n : Nat),
        (i, v, bin, len, n) ∈ [(Instr.sub src, operandSeen s src, false, 1, 0),
          (.sbb src, operandSeen s src, carrySeen s, 1, 1), (.sui imm, imm, false, 2, 0),
          (.sbi imm, imm, carrySeen s, 2, 1)] →
        ∃ t, exec i s = .next t ∧ IsDifference t.regs.a s.regs.a v bin
          ∧ FlagsBecome s t (fun f => DifferenceFlags f s.regs.a v bin t.regs.a)
          ∧ t.pc = s.pc + len ∧ t.sp = s.sp ∧ DrawsFlags s t n ∧ Frame s t [.a] []

/-- 45_alu.md R221, R222, R223: a subtraction whose result is discarded; Z iff equal, CY iff less. -/
def Obligations.CompareFormsSetFlagsOnly : Prop :=
  (∀ r : Reg, EncodedAs (.cmp (.reg r)) [0xB8 + selector (.reg r)] (.masked .cmp))
    ∧ EncodedAs (.cmp .mem) [0xBE] .exact ∧ (∀ imm : Byte, EncodedAs (.cpi imm) [0xFE, imm] .exact)
    ∧ ∀ (s : State) (src : Operand) (imm v r : Byte) (i : Instr) (len : Word),
        (i, v, len) ∈ [(Instr.cmp src, operandSeen s src, 1), (.cpi imm, imm, 2)] →
        IsDifference r s.regs.a v false →
        ∃ t, exec i s = .next t
          ∧ FlagsBecome s t (fun f => DifferenceFlags f s.regs.a v false r
              ∧ f.z = decide (s.regs.a = v) ∧ f.cy = decide (s.regs.a.toNat < v.toNat))
          ∧ t.pc = s.pc + len ∧ t.sp = s.sp ∧ t.draws = s.draws ∧ Frame s t [] []

/-- 45_alu.md R212 to R220, over `and8`, `xor8` and `or8` (40_execution_engine.md R117), bit by bit: CY is
cleared; AC is bit 3 of A OR the operand for the AND forms and cleared for the others. -/
def Obligations.LogicFormsIntoA : Prop :=
  (∀ src : Operand, EncodedAs (.ana src) [0xA0 + selector src] (.masked .ana)
      ∧ EncodedAs (.xra src) [0xA8 + selector src] (.masked .xra)
      ∧ EncodedAs (.ora src) [0xB0 + selector src] (.masked .ora))
    ∧ (∀ imm : Byte, EncodedAs (.ani imm) [0xE6, imm] .exact ∧ EncodedAs (.xri imm) [0xEE, imm] .exact
      ∧ EncodedAs (.ori imm) [0xF6, imm] .exact)
    ∧ ∀ (s : State) (src : Operand) (imm v : Byte) (i : Instr) (len : Word) (op : Bool → Bool → Bool)
        (ac : Bool),
        (i, v, len, op, ac) ∈ ([(Instr.ana src, operandSeen s src, 1, and,
              s.regs.a.getLsbD 3 || (operandSeen s src).getLsbD 3),
            (.ani imm, imm, 2, and, s.regs.a.getLsbD 3 || imm.getLsbD 3),
            (.xra src, operandSeen s src, 1, xor, false), (.xri imm, imm, 2, xor, false),
            (.ora src, operandSeen s src, 1, or, false), (.ori imm, imm, 2, or, false)] :
            List (Instr × Byte × Word × (Bool → Bool → Bool) × Bool)) →
        ∃ t, exec i s = .next t
          ∧ (∀ k, t.regs.a.getLsbD k = op (s.regs.a.getLsbD k) (v.getLsbD k))
          ∧ FlagsBecome s t (fun f => f.cy = false ∧ f.ac = ac ∧ SzpSeen f t.regs.a)
          ∧ t.pc = s.pc + len ∧ t.sp = s.sp ∧ t.draws = s.draws ∧ Frame s t [.a] []

/-- 45_alu.md R224, R226: INR r and DCR r; CY is not changed. -/
def Obligations.IncrementDecrementRegister : Prop :=
  ∀ (s : State) (r : Reg),
    EncodedAs (.inr (.reg r)) [0x04 + 8 * selector (.reg r)] (.masked .inr)
    ∧ EncodedAs (.dcr (.reg r)) [0x05 + 8 * selector (.reg r)] (.masked .dcr)
    ∧ (∃ t, exec (.inr (.reg r)) s = .next t
        ∧ (t.regs.get r).toNat = ((s.regs.get r).toNat + 1) % 256
        ∧ FlagsBecome s t (fun f => f.cy = s.flags.cy
            ∧ f.ac = decide ((s.regs.get r).toNat % 16 = 15) ∧ SzpSeen f (t.regs.get r))
        ∧ t.pc = s.pc + 1 ∧ t.sp = s.sp ∧ t.draws = s.draws ∧ Frame s t [r] [])
    ∧ (∃ t, exec (.dcr (.reg r)) s = .next t
        ∧ (t.regs.get r).toNat = ((s.regs.get r).toNat + 255) % 256
        ∧ FlagsBecome s t (fun f => f.cy = s.flags.cy
            ∧ f.ac = decide ((s.regs.get r).toNat % 16 ≠ 0) ∧ SzpSeen f (t.regs.get r))
        ∧ t.pc = s.pc + 1 ∧ t.sp = s.sp ∧ t.draws = s.draws ∧ Frame s t [r] [])

/-- 45_alu.md R225, R227: INR M and DCR M, a read-modify-write of the byte at HL. -/
def Obligations.IncrementDecrementMemory : Prop :=
  EncodedAs (.inr .mem) [0x34] (.masked .inr) ∧ EncodedAs (.dcr .mem) [0x35] (.masked .dcr)
    ∧ ∀ (s : State) (hl : Word) (v : Byte), hl = cat16 s.regs.h s.regs.l → v = s.readByte hl →
        (∃ t, exec (.inr .mem) s = .next t ∧ (t.readByte hl).toNat = (v.toNat + 1) % 256
          ∧ FlagsBecome s t (fun f => f.cy = s.flags.cy ∧ f.ac = decide (v.toNat % 16 = 15)
              ∧ SzpSeen f (t.readByte hl))
          ∧ t.pc = s.pc + 1 ∧ t.sp = s.sp ∧ t.draws = s.draws ∧ Frame s t [] [hl])
        ∧ (∃ t, exec (.dcr .mem) s = .next t ∧ (t.readByte hl).toNat = (v.toNat + 255) % 256
          ∧ FlagsBecome s t (fun f => f.cy = s.flags.cy ∧ f.ac = decide (v.toNat % 16 ≠ 0)
              ∧ SzpSeen f (t.readByte hl))
          ∧ t.pc = s.pc + 1 ∧ t.sp = s.sp ∧ t.draws = s.draws ∧ Frame s t [] [hl])

/-! ## Register pairs (46_register_pair.md) -/

/-- 46_register_pair.md R230, R234. -/
def Obligations.LxiLoadsThePair : Prop :=
  ∀ (s : State) (p : Pair) (b1 b2 : Byte),
    EncodedAs (.lxi p (cat16 b2 b1)) [0x01 + 16 * pairSelector p, b1, b2] (.masked .lxi)
    ∧ ∃ t, exec (.lxi p (cat16 b2 b1)) s = .next t ∧ pairSeen t p = cat16 b2 b1
        ∧ (p ≠ .sp → t.sp = s.sp) ∧ t.pc = s.pc + 3 ∧ t.flags = s.flags ∧ t.draws = s.draws
        ∧ Frame s t (pairRegs p) []

/-- 46_register_pair.md R231: HL + pair, CY the carry out of bit 15, no other flag. -/
def Obligations.DadAddsIntoHl : Prop :=
  ∀ (s : State) (p : Pair),
    EncodedAs (.dad p) [0x09 + 16 * pairSelector p] (.masked .dad)
    ∧ ∃ t, exec (.dad p) s = .next t
        ∧ (pairSeen t .hl).toNat = ((pairSeen s .hl).toNat + (pairSeen s p).toNat) % 65536
        ∧ OnlyCarryBecomes s t (decide (65536 ≤ (pairSeen s .hl).toNat + (pairSeen s p).toNat))
        ∧ t.pc = s.pc + 1 ∧ t.sp = s.sp ∧ t.draws = s.draws ∧ Frame s t [.h, .l] []

/-- 46_register_pair.md R232, R233: modulo 65536, no flag. -/
def Obligations.InxAndDcxStepThePair : Prop :=
  ∀ (s : State) (p : Pair),
    EncodedAs (.inx p) [0x03 + 16 * pairSelector p] (.masked .inx)
    ∧ EncodedAs (.dcx p) [0x0B + 16 * pairSelector p] (.masked .dcx)
    ∧ (∃ t, exec (.inx p) s = .next t ∧ (pairSeen t p).toNat = ((pairSeen s p).toNat + 1) % 65536
        ∧ (p ≠ .sp → t.sp = s.sp) ∧ t.pc = s.pc + 1 ∧ t.flags = s.flags ∧ t.draws = s.draws
        ∧ Frame s t (pairRegs p) [])
    ∧ (∃ t, exec (.dcx p) s = .next t ∧ (pairSeen t p).toNat = ((pairSeen s p).toNat + 65535) % 65536
        ∧ (p ≠ .sp → t.sp = s.sp) ∧ t.pc = s.pc + 1 ∧ t.flags = s.flags ∧ t.draws = s.draws
        ∧ Frame s t (pairRegs p) [])

/-! ## Data transfer (47_load_store.md) -/

/-- 47_load_store.md R240, R241, R243: MOV r1,r2, MOV r,M and MVI r,d8; the source is read before the
write. -/
def Obligations.MovAndMviIntoARegister : Prop :=
  ∀ (s : State) (r : Reg) (src : Operand) (imm : Byte),
    EncodedAs (.mov (.reg r) src) [0x40 + 8 * selector (.reg r) + selector src] (.masked .mov)
    ∧ EncodedAs (.mvi (.reg r) imm) [0x06 + 8 * selector (.reg r), imm] (.masked .mvi)
    ∧ ∀ (i : Instr) (v : Byte) (len : Word),
        (i, v, len) ∈ [(Instr.mov (.reg r) src, operandSeen s src, 1), (.mvi (.reg r) imm, imm, 2)] →
        ∃ t, exec i s = .next t ∧ t.regs.get r = v ∧ t.pc = s.pc + len ∧ t.sp = s.sp
          ∧ t.flags = s.flags ∧ t.draws = s.draws ∧ Frame s t [r] []

/-- 47_load_store.md R242, R244: MOV M,r and MVI M,d8 store at HL. -/
def Obligations.MovAndMviIntoMemory : Prop :=
  (∀ r : Reg, EncodedAs (.mov .mem (.reg r)) [0x70 + selector (.reg r)] (.masked .mov))
    ∧ (∀ imm : Byte, EncodedAs (.mvi .mem imm) [0x36, imm] (.masked .mvi))
    ∧ ∀ (s : State) (r : Reg) (imm v : Byte) (i : Instr) (len hl : Word), hl = cat16 s.regs.h s.regs.l →
        (i, v, len) ∈ [(Instr.mov .mem (.reg r), s.regs.get r, 1), (.mvi .mem imm, imm, 2)] →
        ∃ t, exec i s = .next t ∧ t.readByte hl = v ∧ t.pc = s.pc + len ∧ t.sp = s.sp
          ∧ t.flags = s.flags ∧ t.draws = s.draws ∧ Frame s t [] [hl]

/-- 47_load_store.md R245, R247, R249: LDA, LHLD, LDAX. -/
def Obligations.LoadsReadMemory : Prop :=
  (∀ b1 b2 : Byte, EncodedAs (.lda (cat16 b2 b1)) [0x3A, b1, b2] .exact
      ∧ EncodedAs (.lhld (cat16 b2 b1)) [0x2A, b1, b2] .exact)
    ∧ EncodedAs (.ldax .bc) [0x0A] (.masked .ldax) ∧ EncodedAs (.ldax .de) [0x1A] (.masked .ldax)
    ∧ (∀ (s : State) (addr a : Word) (p : IndexPair) (i : Instr) (len : Word),
        (i, a, len) ∈ [(Instr.lda addr, addr, 3), (.ldax p, indexSeen s p, 1)] →
        ∃ t, exec i s = .next t ∧ t.regs.a = s.readByte a ∧ t.pc = s.pc + len ∧ t.sp = s.sp
          ∧ t.flags = s.flags ∧ t.draws = s.draws ∧ Frame s t [.a] [])
    ∧ (∀ (s : State) (addr : Word), ∃ t, exec (.lhld addr) s = .next t ∧ t.regs.l = s.readByte addr
        ∧ t.regs.h = s.readByte (addr + 1) ∧ t.pc = s.pc + 3 ∧ t.sp = s.sp ∧ t.flags = s.flags
        ∧ t.draws = s.draws ∧ Frame s t [.h, .l] [])

/-- 47_load_store.md R246, R248, R250: STA, SHLD, STAX. -/
def Obligations.StoresWriteMemory : Prop :=
  (∀ b1 b2 : Byte, EncodedAs (.sta (cat16 b2 b1)) [0x32, b1, b2] .exact
      ∧ EncodedAs (.shld (cat16 b2 b1)) [0x22, b1, b2] .exact)
    ∧ EncodedAs (.stax .bc) [0x02] (.masked .stax) ∧ EncodedAs (.stax .de) [0x12] (.masked .stax)
    ∧ (∀ (s : State) (addr a : Word) (p : IndexPair) (i : Instr) (len : Word),
        (i, a, len) ∈ [(Instr.sta addr, addr, 3), (.stax p, indexSeen s p, 1)] →
        ∃ t, exec i s = .next t ∧ t.readByte a = s.regs.a ∧ t.pc = s.pc + len ∧ t.sp = s.sp
          ∧ t.flags = s.flags ∧ t.draws = s.draws ∧ Frame s t [] [a])
    ∧ (∀ (s : State) (addr : Word), ∃ t, exec (.shld addr) s = .next t ∧ t.readByte addr = s.regs.l
        ∧ t.readByte (addr + 1) = s.regs.h ∧ t.pc = s.pc + 3 ∧ t.sp = s.sp ∧ t.flags = s.flags
        ∧ t.draws = s.draws ∧ Frame s t [] [addr, addr + 1])

/-! ## Ports (48_io.md) -/

/-- 48_io.md R260: A is the environment's answer, a draw; one port-read event with that answer. It holds
whatever `Config.ioIn` is. -/
def Obligations.InReadsThePort : Prop :=
  ∀ (s : State) (port : Byte),
    EncodedAs (.inp port) [0xDB, port] .exact ∧ UnrecognizedWithoutExtra 0xDB
    ∧ ∃ t, exec (.inp port) s = .next t ∧ t.regs.a = Config.ioIn s.draws port
        ∧ t.io = s.io ++ [.read port t.regs.a] ∧ t.draws = s.draws + 1
        ∧ t.pc = s.pc + 2 ∧ t.sp = s.sp ∧ t.flags = s.flags ∧ Frame s { t with io := s.io } [.a] []

/-- 48_io.md R261: one port write is emitted, and nothing of the block changes but pc. -/
def Obligations.OutEmitsThePortWrite : Prop :=
  ∀ (s : State) (port : Byte),
    EncodedAs (.out port) [0xD3, port] .exact ∧ UnrecognizedWithoutExtra 0xD3
    ∧ ∃ t, exec (.out port) s = .next t ∧ t.io = s.io ++ [.write port s.regs.a]
        ∧ t.portWrites = s.portWrites ++ [(port, s.regs.a)]
        ∧ t.pc = s.pc + 2 ∧ t.sp = s.sp ∧ t.flags = s.flags ∧ t.draws = s.draws
        ∧ Frame s { t with io := s.io } [] []
end

