-- ==== Sys2Proof/Laws/State.lean ====
section
/-! SUPPORT. One lemma per field per update of `State`, true by rfl, so that no proof unfolds a record
update. -/

namespace Sys2Proof.Machine

variable (s : State)

/-! `setReg` -/

@[simp] theorem State.setReg_regs (r : Reg) (v : Byte) : (s.setReg r v).regs = s.regs.set r v := rfl
@[simp] theorem State.setReg_sp (r : Reg) (v : Byte) : (s.setReg r v).sp = s.sp := rfl
@[simp] theorem State.setReg_pc (r : Reg) (v : Byte) : (s.setReg r v).pc = s.pc := rfl
@[simp] theorem State.setReg_mem (r : Reg) (v : Byte) : (s.setReg r v).mem = s.mem := rfl
@[simp] theorem State.setReg_stall (r : Reg) (v : Byte) : (s.setReg r v).stall = s.stall := rfl
@[simp] theorem State.setReg_flags (r : Reg) (v : Byte) : (s.setReg r v).flags = s.flags := rfl
@[simp] theorem State.setReg_inte (r : Reg) (v : Byte) : (s.setReg r v).inte = s.inte := rfl
@[simp] theorem State.setReg_halted (r : Reg) (v : Byte) : (s.setReg r v).halted = s.halted := rfl
@[simp] theorem State.setReg_params (r : Reg) (v : Byte) : (s.setReg r v).params = s.params := rfl
@[simp] theorem State.setReg_draws (r : Reg) (v : Byte) : (s.setReg r v).draws = s.draws := rfl
@[simp] theorem State.setReg_trace (r : Reg) (v : Byte) : (s.setReg r v).trace = s.trace := rfl
@[simp] theorem State.setReg_diags (r : Reg) (v : Byte) : (s.setReg r v).diags = s.diags := rfl
@[simp] theorem State.setReg_io (r : Reg) (v : Byte) : (s.setReg r v).io = s.io := rfl
@[simp] theorem State.setReg_accesses (r : Reg) (v : Byte) : (s.setReg r v).accesses = s.accesses := rfl

/-! `setSp` -/

@[simp] theorem State.setSp_regs (w : Word) : (s.setSp w).regs = s.regs := rfl
@[simp] theorem State.setSp_sp (w : Word) : (s.setSp w).sp = w := rfl
@[simp] theorem State.setSp_pc (w : Word) : (s.setSp w).pc = s.pc := rfl
@[simp] theorem State.setSp_mem (w : Word) : (s.setSp w).mem = s.mem := rfl
@[simp] theorem State.setSp_stall (w : Word) : (s.setSp w).stall = s.stall := rfl
@[simp] theorem State.setSp_flags (w : Word) : (s.setSp w).flags = s.flags := rfl
@[simp] theorem State.setSp_inte (w : Word) : (s.setSp w).inte = s.inte := rfl
@[simp] theorem State.setSp_halted (w : Word) : (s.setSp w).halted = s.halted := rfl
@[simp] theorem State.setSp_params (w : Word) : (s.setSp w).params = s.params := rfl
@[simp] theorem State.setSp_draws (w : Word) : (s.setSp w).draws = s.draws := rfl
@[simp] theorem State.setSp_trace (w : Word) : (s.setSp w).trace = s.trace := rfl
@[simp] theorem State.setSp_diags (w : Word) : (s.setSp w).diags = s.diags := rfl
@[simp] theorem State.setSp_io (w : Word) : (s.setSp w).io = s.io := rfl
@[simp] theorem State.setSp_accesses (w : Word) : (s.setSp w).accesses = s.accesses := rfl

/-! `advance` -/

@[simp] theorem State.advance_regs (n : Word) : (s.advance n).regs = s.regs := rfl
@[simp] theorem State.advance_sp (n : Word) : (s.advance n).sp = s.sp := rfl
@[simp] theorem State.advance_pc (n : Word) : (s.advance n).pc = s.pc + n := rfl
@[simp] theorem State.advance_mem (n : Word) : (s.advance n).mem = s.mem := rfl
@[simp] theorem State.advance_stall (n : Word) : (s.advance n).stall = s.stall := rfl
@[simp] theorem State.advance_flags (n : Word) : (s.advance n).flags = s.flags := rfl
@[simp] theorem State.advance_inte (n : Word) : (s.advance n).inte = s.inte := rfl
@[simp] theorem State.advance_halted (n : Word) : (s.advance n).halted = s.halted := rfl
@[simp] theorem State.advance_params (n : Word) : (s.advance n).params = s.params := rfl
@[simp] theorem State.advance_draws (n : Word) : (s.advance n).draws = s.draws := rfl
@[simp] theorem State.advance_trace (n : Word) : (s.advance n).trace = s.trace := rfl
@[simp] theorem State.advance_diags (n : Word) : (s.advance n).diags = s.diags := rfl
@[simp] theorem State.advance_io (n : Word) : (s.advance n).io = s.io := rfl
@[simp] theorem State.advance_accesses (n : Word) : (s.advance n).accesses = s.accesses := rfl

/-! `jump` -/

@[simp] theorem State.jump_regs (a : Word) : (s.jump a).regs = s.regs := rfl
@[simp] theorem State.jump_sp (a : Word) : (s.jump a).sp = s.sp := rfl
@[simp] theorem State.jump_pc (a : Word) : (s.jump a).pc = a := rfl
@[simp] theorem State.jump_mem (a : Word) : (s.jump a).mem = s.mem := rfl
@[simp] theorem State.jump_stall (a : Word) : (s.jump a).stall = s.stall := rfl
@[simp] theorem State.jump_flags (a : Word) : (s.jump a).flags = s.flags := rfl
@[simp] theorem State.jump_inte (a : Word) : (s.jump a).inte = s.inte := rfl
@[simp] theorem State.jump_halted (a : Word) : (s.jump a).halted = s.halted := rfl
@[simp] theorem State.jump_params (a : Word) : (s.jump a).params = s.params := rfl
@[simp] theorem State.jump_draws (a : Word) : (s.jump a).draws = s.draws := rfl
@[simp] theorem State.jump_trace (a : Word) : (s.jump a).trace = s.trace := rfl
@[simp] theorem State.jump_diags (a : Word) : (s.jump a).diags = s.diags := rfl
@[simp] theorem State.jump_io (a : Word) : (s.jump a).io = s.io := rfl
@[simp] theorem State.jump_accesses (a : Word) : (s.jump a).accesses = s.accesses := rfl

/-! `writeByte` -/

@[simp] theorem State.writeByte_regs (a : Word) (v : Byte) : (s.writeByte a v).regs = s.regs := rfl
@[simp] theorem State.writeByte_sp (a : Word) (v : Byte) : (s.writeByte a v).sp = s.sp := rfl
@[simp] theorem State.writeByte_pc (a : Word) (v : Byte) : (s.writeByte a v).pc = s.pc := rfl
@[simp] theorem State.writeByte_mem (a : Word) (v : Byte) :
    (s.writeByte a v).mem = s.mem.write a.toNat v := rfl
@[simp] theorem State.writeByte_stall (a : Word) (v : Byte) : (s.writeByte a v).stall = s.stall := rfl
@[simp] theorem State.writeByte_flags (a : Word) (v : Byte) : (s.writeByte a v).flags = s.flags := rfl
@[simp] theorem State.writeByte_inte (a : Word) (v : Byte) : (s.writeByte a v).inte = s.inte := rfl
@[simp] theorem State.writeByte_halted (a : Word) (v : Byte) : (s.writeByte a v).halted = s.halted := rfl
@[simp] theorem State.writeByte_params (a : Word) (v : Byte) : (s.writeByte a v).params = s.params := rfl
@[simp] theorem State.writeByte_draws (a : Word) (v : Byte) : (s.writeByte a v).draws = s.draws := rfl
@[simp] theorem State.writeByte_trace (a : Word) (v : Byte) : (s.writeByte a v).trace = s.trace := rfl
@[simp] theorem State.writeByte_diags (a : Word) (v : Byte) : (s.writeByte a v).diags = s.diags := rfl
@[simp] theorem State.writeByte_io (a : Word) (v : Byte) : (s.writeByte a v).io = s.io := rfl
@[simp] theorem State.writeByte_accesses (a : Word) (v : Byte) :
    (s.writeByte a v).accesses = s.accesses := rfl

/-! `writeWord` -/

@[simp] theorem State.writeWord_regs (a w : Word) : (s.writeWord a w).regs = s.regs := rfl
@[simp] theorem State.writeWord_sp (a w : Word) : (s.writeWord a w).sp = s.sp := rfl
@[simp] theorem State.writeWord_pc (a w : Word) : (s.writeWord a w).pc = s.pc := rfl
@[simp] theorem State.writeWord_mem (a w : Word) :
    (s.writeWord a w).mem = (s.mem.write a.toNat (lo w)).write (a + 1).toNat (hi w) := rfl
@[simp] theorem State.writeWord_stall (a w : Word) : (s.writeWord a w).stall = s.stall := rfl
@[simp] theorem State.writeWord_flags (a w : Word) : (s.writeWord a w).flags = s.flags := rfl
@[simp] theorem State.writeWord_inte (a w : Word) : (s.writeWord a w).inte = s.inte := rfl
@[simp] theorem State.writeWord_halted (a w : Word) : (s.writeWord a w).halted = s.halted := rfl
@[simp] theorem State.writeWord_params (a w : Word) : (s.writeWord a w).params = s.params := rfl
@[simp] theorem State.writeWord_draws (a w : Word) : (s.writeWord a w).draws = s.draws := rfl
@[simp] theorem State.writeWord_trace (a w : Word) : (s.writeWord a w).trace = s.trace := rfl
@[simp] theorem State.writeWord_diags (a w : Word) : (s.writeWord a w).diags = s.diags := rfl
@[simp] theorem State.writeWord_io (a w : Word) : (s.writeWord a w).io = s.io := rfl
@[simp] theorem State.writeWord_accesses (a w : Word) : (s.writeWord a w).accesses = s.accesses := rfl

/-! `push16` -/

@[simp] theorem State.push16_regs (w : Word) : (s.push16 w).regs = s.regs := rfl
@[simp] theorem State.push16_sp (w : Word) : (s.push16 w).sp = s.sp - 2 := rfl
@[simp] theorem State.push16_pc (w : Word) : (s.push16 w).pc = s.pc := rfl
@[simp] theorem State.push16_mem (w : Word) : (s.push16 w).mem = (s.writeWord (s.sp - 2) w).mem := rfl
@[simp] theorem State.push16_stall (w : Word) : (s.push16 w).stall = s.stall := rfl
@[simp] theorem State.push16_flags (w : Word) : (s.push16 w).flags = s.flags := rfl
@[simp] theorem State.push16_inte (w : Word) : (s.push16 w).inte = s.inte := rfl
@[simp] theorem State.push16_halted (w : Word) : (s.push16 w).halted = s.halted := rfl
@[simp] theorem State.push16_params (w : Word) : (s.push16 w).params = s.params := rfl
@[simp] theorem State.push16_draws (w : Word) : (s.push16 w).draws = s.draws := rfl
@[simp] theorem State.push16_trace (w : Word) : (s.push16 w).trace = s.trace := rfl
@[simp] theorem State.push16_diags (w : Word) : (s.push16 w).diags = s.diags := rfl
@[simp] theorem State.push16_io (w : Word) : (s.push16 w).io = s.io := rfl
@[simp] theorem State.push16_accesses (w : Word) : (s.push16 w).accesses = s.accesses := rfl

/-! `dropTop` -/

@[simp] theorem State.dropTop_regs : (s.dropTop).regs = s.regs := rfl
@[simp] theorem State.dropTop_sp : (s.dropTop).sp = s.sp + 2 := rfl
@[simp] theorem State.dropTop_pc : (s.dropTop).pc = s.pc := rfl
@[simp] theorem State.dropTop_mem : (s.dropTop).mem = s.mem := rfl
@[simp] theorem State.dropTop_stall : (s.dropTop).stall = s.stall := rfl
@[simp] theorem State.dropTop_flags : (s.dropTop).flags = s.flags := rfl
@[simp] theorem State.dropTop_inte : (s.dropTop).inte = s.inte := rfl
@[simp] theorem State.dropTop_halted : (s.dropTop).halted = s.halted := rfl
@[simp] theorem State.dropTop_params : (s.dropTop).params = s.params := rfl
@[simp] theorem State.dropTop_draws : (s.dropTop).draws = s.draws := rfl
@[simp] theorem State.dropTop_trace : (s.dropTop).trace = s.trace := rfl
@[simp] theorem State.dropTop_diags : (s.dropTop).diags = s.diags := rfl
@[simp] theorem State.dropTop_io : (s.dropTop).io = s.io := rfl
@[simp] theorem State.dropTop_accesses : (s.dropTop).accesses = s.accesses := rfl

/-! `setInte` -/

@[simp] theorem State.setInte_regs (v : Bool) : (s.setInte v).regs = s.regs := rfl
@[simp] theorem State.setInte_sp (v : Bool) : (s.setInte v).sp = s.sp := rfl
@[simp] theorem State.setInte_pc (v : Bool) : (s.setInte v).pc = s.pc := rfl
@[simp] theorem State.setInte_mem (v : Bool) : (s.setInte v).mem = s.mem := rfl
@[simp] theorem State.setInte_stall (v : Bool) : (s.setInte v).stall = s.stall := rfl
@[simp] theorem State.setInte_flags (v : Bool) : (s.setInte v).flags = s.flags := rfl
@[simp] theorem State.setInte_inte (v : Bool) : (s.setInte v).inte = v := rfl
@[simp] theorem State.setInte_halted (v : Bool) : (s.setInte v).halted = s.halted := rfl
@[simp] theorem State.setInte_params (v : Bool) : (s.setInte v).params = s.params := rfl
@[simp] theorem State.setInte_draws (v : Bool) : (s.setInte v).draws = s.draws := rfl
@[simp] theorem State.setInte_trace (v : Bool) : (s.setInte v).trace = s.trace := rfl
@[simp] theorem State.setInte_diags (v : Bool) : (s.setInte v).diags = s.diags := rfl
@[simp] theorem State.setInte_io (v : Bool) : (s.setInte v).io = s.io := rfl
@[simp] theorem State.setInte_accesses (v : Bool) : (s.setInte v).accesses = s.accesses := rfl

/-! `halt` -/

@[simp] theorem State.halt_regs : (s.halt).regs = s.regs := rfl
@[simp] theorem State.halt_sp : (s.halt).sp = s.sp := rfl
@[simp] theorem State.halt_pc : (s.halt).pc = s.pc := rfl
@[simp] theorem State.halt_mem : (s.halt).mem = s.mem := rfl
@[simp] theorem State.halt_stall : (s.halt).stall = s.stall := rfl
@[simp] theorem State.halt_flags : (s.halt).flags = s.flags := rfl
@[simp] theorem State.halt_inte : (s.halt).inte = s.inte := rfl
@[simp] theorem State.halt_halted : (s.halt).halted = true := rfl
@[simp] theorem State.halt_params : (s.halt).params = s.params := rfl
@[simp] theorem State.halt_draws : (s.halt).draws = s.draws := rfl
@[simp] theorem State.halt_trace : (s.halt).trace = s.trace := rfl
@[simp] theorem State.halt_diags : (s.halt).diags = s.diags := rfl
@[simp] theorem State.halt_io : (s.halt).io = s.io := rfl
@[simp] theorem State.halt_accesses : (s.halt).accesses = s.accesses := rfl

/-! `report` -/

@[simp] theorem State.report_regs (op : Byte) : (s.report op).regs = s.regs := rfl
@[simp] theorem State.report_sp (op : Byte) : (s.report op).sp = s.sp := rfl
@[simp] theorem State.report_pc (op : Byte) : (s.report op).pc = s.pc := rfl
@[simp] theorem State.report_mem (op : Byte) : (s.report op).mem = s.mem := rfl
@[simp] theorem State.report_stall (op : Byte) : (s.report op).stall = s.stall := rfl
@[simp] theorem State.report_flags (op : Byte) : (s.report op).flags = s.flags := rfl
@[simp] theorem State.report_inte (op : Byte) : (s.report op).inte = s.inte := rfl
@[simp] theorem State.report_halted (op : Byte) : (s.report op).halted = s.halted := rfl
@[simp] theorem State.report_params (op : Byte) : (s.report op).params = s.params := rfl
@[simp] theorem State.report_draws (op : Byte) : (s.report op).draws = s.draws := rfl
@[simp] theorem State.report_trace (op : Byte) : (s.report op).trace = s.trace := rfl
@[simp] theorem State.report_diags (op : Byte) :
    (s.report op).diags = s.diags ++ [{ opcode := op, pc := s.pc }] := rfl
@[simp] theorem State.report_io (op : Byte) : (s.report op).io = s.io := rfl
@[simp] theorem State.report_accesses (op : Byte) : (s.report op).accesses = s.accesses := rfl

/-! `emitIo` -/

@[simp] theorem State.emitIo_regs (e : IoEvent) : (s.emitIo e).regs = s.regs := rfl
@[simp] theorem State.emitIo_sp (e : IoEvent) : (s.emitIo e).sp = s.sp := rfl
@[simp] theorem State.emitIo_pc (e : IoEvent) : (s.emitIo e).pc = s.pc := rfl
@[simp] theorem State.emitIo_mem (e : IoEvent) : (s.emitIo e).mem = s.mem := rfl
@[simp] theorem State.emitIo_stall (e : IoEvent) : (s.emitIo e).stall = s.stall := rfl
@[simp] theorem State.emitIo_flags (e : IoEvent) : (s.emitIo e).flags = s.flags := rfl
@[simp] theorem State.emitIo_inte (e : IoEvent) : (s.emitIo e).inte = s.inte := rfl
@[simp] theorem State.emitIo_halted (e : IoEvent) : (s.emitIo e).halted = s.halted := rfl
@[simp] theorem State.emitIo_params (e : IoEvent) : (s.emitIo e).params = s.params := rfl
@[simp] theorem State.emitIo_draws (e : IoEvent) : (s.emitIo e).draws = s.draws := rfl
@[simp] theorem State.emitIo_trace (e : IoEvent) : (s.emitIo e).trace = s.trace := rfl
@[simp] theorem State.emitIo_diags (e : IoEvent) : (s.emitIo e).diags = s.diags := rfl
@[simp] theorem State.emitIo_io (e : IoEvent) : (s.emitIo e).io = s.io ++ [e] := rfl
@[simp] theorem State.emitIo_accesses (e : IoEvent) : (s.emitIo e).accesses = s.accesses := rfl

/-! `drawn` -/

@[simp] theorem State.drawn_regs (n : Nat) : (s.drawn n).regs = s.regs := rfl
@[simp] theorem State.drawn_sp (n : Nat) : (s.drawn n).sp = s.sp := rfl
@[simp] theorem State.drawn_pc (n : Nat) : (s.drawn n).pc = s.pc := rfl
@[simp] theorem State.drawn_mem (n : Nat) : (s.drawn n).mem = s.mem := rfl
@[simp] theorem State.drawn_stall (n : Nat) : (s.drawn n).stall = s.stall := rfl
@[simp] theorem State.drawn_flags (n : Nat) : (s.drawn n).flags = s.flags := rfl
@[simp] theorem State.drawn_inte (n : Nat) : (s.drawn n).inte = s.inte := rfl
@[simp] theorem State.drawn_halted (n : Nat) : (s.drawn n).halted = s.halted := rfl
@[simp] theorem State.drawn_params (n : Nat) : (s.drawn n).params = s.params := rfl
@[simp] theorem State.drawn_draws (n : Nat) : (s.drawn n).draws = s.draws + n := rfl
@[simp] theorem State.drawn_trace (n : Nat) : (s.drawn n).trace = s.trace := rfl
@[simp] theorem State.drawn_diags (n : Nat) : (s.drawn n).diags = s.diags := rfl
@[simp] theorem State.drawn_io (n : Nat) : (s.drawn n).io = s.io := rfl
@[simp] theorem State.drawn_accesses (n : Nat) : (s.drawn n).accesses = s.accesses := rfl

/-! `flagsRead` -/

@[simp] theorem State.flagsRead_regs (n : Nat) : (s.flagsRead n).regs = s.regs := rfl
@[simp] theorem State.flagsRead_sp (n : Nat) : (s.flagsRead n).sp = s.sp := rfl
@[simp] theorem State.flagsRead_pc (n : Nat) : (s.flagsRead n).pc = s.pc := rfl
@[simp] theorem State.flagsRead_mem (n : Nat) : (s.flagsRead n).mem = s.mem := rfl
@[simp] theorem State.flagsRead_stall (n : Nat) : (s.flagsRead n).stall = s.stall := rfl
@[simp] theorem State.flagsRead_flags (n : Nat) : (s.flagsRead n).flags = s.flags := rfl
@[simp] theorem State.flagsRead_inte (n : Nat) : (s.flagsRead n).inte = s.inte := rfl
@[simp] theorem State.flagsRead_halted (n : Nat) : (s.flagsRead n).halted = s.halted := rfl
@[simp] theorem State.flagsRead_params (n : Nat) : (s.flagsRead n).params = s.params := rfl
@[simp] theorem State.flagsRead_trace (n : Nat) : (s.flagsRead n).trace = s.trace := rfl
@[simp] theorem State.flagsRead_diags (n : Nat) : (s.flagsRead n).diags = s.diags := rfl
@[simp] theorem State.flagsRead_io (n : Nat) : (s.flagsRead n).io = s.io := rfl
@[simp] theorem State.flagsRead_accesses (n : Nat) : (s.flagsRead n).accesses = s.accesses := rfl

/-! `setFlags` -/

@[simp] theorem State.setFlags_regs (f : Flags) : (s.setFlags f).regs = s.regs := rfl
@[simp] theorem State.setFlags_sp (f : Flags) : (s.setFlags f).sp = s.sp := rfl
@[simp] theorem State.setFlags_pc (f : Flags) : (s.setFlags f).pc = s.pc := rfl
@[simp] theorem State.setFlags_mem (f : Flags) : (s.setFlags f).mem = s.mem := rfl
@[simp] theorem State.setFlags_stall (f : Flags) : (s.setFlags f).stall = s.stall := rfl
@[simp] theorem State.setFlags_inte (f : Flags) : (s.setFlags f).inte = s.inte := rfl
@[simp] theorem State.setFlags_halted (f : Flags) : (s.setFlags f).halted = s.halted := rfl
@[simp] theorem State.setFlags_params (f : Flags) : (s.setFlags f).params = s.params := rfl
@[simp] theorem State.setFlags_draws (f : Flags) : (s.setFlags f).draws = s.draws := rfl
@[simp] theorem State.setFlags_trace (f : Flags) : (s.setFlags f).trace = s.trace := rfl
@[simp] theorem State.setFlags_diags (f : Flags) : (s.setFlags f).diags = s.diags := rfl
@[simp] theorem State.setFlags_io (f : Flags) : (s.setFlags f).io = s.io := rfl
@[simp] theorem State.setFlags_accesses (f : Flags) : (s.setFlags f).accesses = s.accesses := rfl

/-! `setCarry` -/

@[simp] theorem State.setCarry_regs (v : Bool) : (s.setCarry v).regs = s.regs := rfl
@[simp] theorem State.setCarry_sp (v : Bool) : (s.setCarry v).sp = s.sp := rfl
@[simp] theorem State.setCarry_pc (v : Bool) : (s.setCarry v).pc = s.pc := rfl
@[simp] theorem State.setCarry_mem (v : Bool) : (s.setCarry v).mem = s.mem := rfl
@[simp] theorem State.setCarry_stall (v : Bool) : (s.setCarry v).stall = s.stall := rfl
@[simp] theorem State.setCarry_flags (v : Bool) :
    (s.setCarry v).flags = (s.setFlags { s.flags with cy := v }).flags := rfl
@[simp] theorem State.setCarry_inte (v : Bool) : (s.setCarry v).inte = s.inte := rfl
@[simp] theorem State.setCarry_halted (v : Bool) : (s.setCarry v).halted = s.halted := rfl
@[simp] theorem State.setCarry_params (v : Bool) : (s.setCarry v).params = s.params := rfl
@[simp] theorem State.setCarry_draws (v : Bool) : (s.setCarry v).draws = s.draws := rfl
@[simp] theorem State.setCarry_trace (v : Bool) : (s.setCarry v).trace = s.trace := rfl
@[simp] theorem State.setCarry_diags (v : Bool) : (s.setCarry v).diags = s.diags := rfl
@[simp] theorem State.setCarry_io (v : Bool) : (s.setCarry v).io = s.io := rfl
@[simp] theorem State.setCarry_accesses (v : Bool) : (s.setCarry v).accesses = s.accesses := rfl

/-! `stallStep` -/

@[simp] theorem State.stallStep_regs : (s.stallStep).regs = s.regs := rfl
@[simp] theorem State.stallStep_sp : (s.stallStep).sp = s.sp := rfl
@[simp] theorem State.stallStep_pc : (s.stallStep).pc = s.pc := rfl
@[simp] theorem State.stallStep_mem : (s.stallStep).mem = s.mem := rfl
@[simp] theorem State.stallStep_stall : (s.stallStep).stall = s.stall - 1 := rfl
@[simp] theorem State.stallStep_flags : (s.stallStep).flags = s.flags := rfl
@[simp] theorem State.stallStep_inte : (s.stallStep).inte = s.inte := rfl
@[simp] theorem State.stallStep_halted : (s.stallStep).halted = s.halted := rfl
@[simp] theorem State.stallStep_params : (s.stallStep).params = s.params := rfl
@[simp] theorem State.stallStep_draws : (s.stallStep).draws = s.draws := rfl
@[simp] theorem State.stallStep_trace : (s.stallStep).trace = s.trace := rfl
@[simp] theorem State.stallStep_diags : (s.stallStep).diags = s.diags := rfl
@[simp] theorem State.stallStep_io : (s.stallStep).io = s.io := rfl
@[simp] theorem State.stallStep_accesses : (s.stallStep).accesses = s.accesses := rfl

/-! `load` -/

@[simp] theorem State.load_regs (bs : List Byte) : (s.load bs).regs = s.regs := rfl
@[simp] theorem State.load_sp (bs : List Byte) : (s.load bs).sp = s.sp := rfl
@[simp] theorem State.load_pc (bs : List Byte) : (s.load bs).pc = s.pc := rfl
@[simp] theorem State.load_mem (bs : List Byte) : (s.load bs).mem = s.mem.loadFrom 0 bs := rfl
@[simp] theorem State.load_stall (bs : List Byte) : (s.load bs).stall = s.stall := rfl
@[simp] theorem State.load_flags (bs : List Byte) : (s.load bs).flags = s.flags := rfl
@[simp] theorem State.load_inte (bs : List Byte) : (s.load bs).inte = s.inte := rfl
@[simp] theorem State.load_halted (bs : List Byte) : (s.load bs).halted = s.halted := rfl
@[simp] theorem State.load_params (bs : List Byte) : (s.load bs).params = s.params := rfl
@[simp] theorem State.load_draws (bs : List Byte) : (s.load bs).draws = s.draws := rfl
@[simp] theorem State.load_trace (bs : List Byte) : (s.load bs).trace = s.trace := rfl
@[simp] theorem State.load_diags (bs : List Byte) : (s.load bs).diags = s.diags := rfl
@[simp] theorem State.load_io (bs : List Byte) : (s.load bs).io = s.io := rfl
@[simp] theorem State.load_accesses (bs : List Byte) : (s.load bs).accesses = s.accesses := rfl

/-! `setPair`, `setOperand`, `setStackPair`: by the operand's form -/

@[simp] theorem State.setPair_pc (p : Pair) (w : Word) : (s.setPair p w).pc = s.pc := by
  cases p <;> rfl
@[simp] theorem State.setPair_mem (p : Pair) (w : Word) : (s.setPair p w).mem = s.mem := by
  cases p <;> rfl
@[simp] theorem State.setPair_stall (p : Pair) (w : Word) : (s.setPair p w).stall = s.stall := by
  cases p <;> rfl
@[simp] theorem State.setPair_flags (p : Pair) (w : Word) : (s.setPair p w).flags = s.flags := by
  cases p <;> rfl
@[simp] theorem State.setPair_inte (p : Pair) (w : Word) : (s.setPair p w).inte = s.inte := by
  cases p <;> rfl
@[simp] theorem State.setPair_halted (p : Pair) (w : Word) : (s.setPair p w).halted = s.halted := by
  cases p <;> rfl
@[simp] theorem State.setPair_params (p : Pair) (w : Word) : (s.setPair p w).params = s.params := by
  cases p <;> rfl
@[simp] theorem State.setPair_draws (p : Pair) (w : Word) : (s.setPair p w).draws = s.draws := by
  cases p <;> rfl
@[simp] theorem State.setPair_trace (p : Pair) (w : Word) : (s.setPair p w).trace = s.trace := by
  cases p <;> rfl
@[simp] theorem State.setPair_diags (p : Pair) (w : Word) : (s.setPair p w).diags = s.diags := by
  cases p <;> rfl
@[simp] theorem State.setPair_io (p : Pair) (w : Word) : (s.setPair p w).io = s.io := by
  cases p <;> rfl
@[simp] theorem State.setPair_accesses (p : Pair) (w : Word) : (s.setPair p w).accesses = s.accesses := by
  cases p <;> rfl
@[simp] theorem State.setStackPair_sp (p : StackPair) (w : Word) : (s.setStackPair p w).sp = s.sp := by
  cases p <;> rfl
@[simp] theorem State.setStackPair_pc (p : StackPair) (w : Word) : (s.setStackPair p w).pc = s.pc := by
  cases p <;> rfl
@[simp] theorem State.setStackPair_mem (p : StackPair) (w : Word) : (s.setStackPair p w).mem = s.mem := by
  cases p <;> rfl
@[simp] theorem State.setStackPair_stall (p : StackPair) (w : Word) : (s.setStackPair p w).stall = s.stall := by
  cases p <;> rfl
@[simp] theorem State.setStackPair_inte (p : StackPair) (w : Word) : (s.setStackPair p w).inte = s.inte := by
  cases p <;> rfl
@[simp] theorem State.setStackPair_halted (p : StackPair) (w : Word) : (s.setStackPair p w).halted = s.halted := by
  cases p <;> rfl
@[simp] theorem State.setStackPair_params (p : StackPair) (w : Word) : (s.setStackPair p w).params = s.params := by
  cases p <;> rfl
@[simp] theorem State.setStackPair_draws (p : StackPair) (w : Word) : (s.setStackPair p w).draws = s.draws := by
  cases p <;> rfl
@[simp] theorem State.setStackPair_trace (p : StackPair) (w : Word) : (s.setStackPair p w).trace = s.trace := by
  cases p <;> rfl
@[simp] theorem State.setStackPair_diags (p : StackPair) (w : Word) : (s.setStackPair p w).diags = s.diags := by
  cases p <;> rfl
@[simp] theorem State.setStackPair_io (p : StackPair) (w : Word) : (s.setStackPair p w).io = s.io := by
  cases p <;> rfl
@[simp] theorem State.setStackPair_accesses (p : StackPair) (w : Word) : (s.setStackPair p w).accesses = s.accesses := by
  cases p <;> rfl
@[simp] theorem State.setOperand_sp (d : Operand) (v : Byte) : (s.setOperand d v).sp = s.sp := by
  cases d <;> rfl
@[simp] theorem State.setOperand_pc (d : Operand) (v : Byte) : (s.setOperand d v).pc = s.pc := by
  cases d <;> rfl
@[simp] theorem State.setOperand_stall (d : Operand) (v : Byte) : (s.setOperand d v).stall = s.stall := by
  cases d <;> rfl
@[simp] theorem State.setOperand_flags (d : Operand) (v : Byte) : (s.setOperand d v).flags = s.flags := by
  cases d <;> rfl
@[simp] theorem State.setOperand_inte (d : Operand) (v : Byte) : (s.setOperand d v).inte = s.inte := by
  cases d <;> rfl
@[simp] theorem State.setOperand_halted (d : Operand) (v : Byte) : (s.setOperand d v).halted = s.halted := by
  cases d <;> rfl
@[simp] theorem State.setOperand_params (d : Operand) (v : Byte) : (s.setOperand d v).params = s.params := by
  cases d <;> rfl
@[simp] theorem State.setOperand_draws (d : Operand) (v : Byte) : (s.setOperand d v).draws = s.draws := by
  cases d <;> rfl
@[simp] theorem State.setOperand_trace (d : Operand) (v : Byte) : (s.setOperand d v).trace = s.trace := by
  cases d <;> rfl
@[simp] theorem State.setOperand_diags (d : Operand) (v : Byte) : (s.setOperand d v).diags = s.diags := by
  cases d <;> rfl
@[simp] theorem State.setOperand_io (d : Operand) (v : Byte) : (s.setOperand d v).io = s.io := by
  cases d <;> rfl
@[simp] theorem State.setOperand_accesses (d : Operand) (v : Byte) : (s.setOperand d v).accesses = s.accesses := by
  cases d <;> rfl

/-! The register file -/

@[simp] theorem Regs.get_set_same (g : Regs) (r : Reg) (v : Byte) : (g.set r v).get r = v := by
  cases r <;> rfl

theorem Regs.get_set_other (g : Regs) (r q : Reg) (v : Byte) (h : q ≠ r) :
    (g.set r v).get q = g.get q := by
  cases r <;> cases q <;> first | rfl | exact absurd rfl h

/-! FLAG_MODEL (40_execution_engine.md R119) -/

theorem State.setFlags_flags_intel (f : Flags) (h : s.params.flagModel = .intel8080) :
    (s.setFlags f).flags = f := by simp [State.setFlags, h]

theorem State.setFlags_flags_unmodelled (f : Flags) (h : s.params.flagModel = .unmodelled) :
    (s.setFlags f).flags = s.flags := by simp [State.setFlags, h]

theorem State.flagsRead_draws_intel (n : Nat) (h : s.params.flagModel = .intel8080) :
    (s.flagsRead n).draws = s.draws := by simp [State.flagsRead, h]

theorem State.flagsRead_draws_unmodelled (n : Nat) (h : s.params.flagModel = .unmodelled) :
    (s.flagsRead n).draws = s.draws + n := by simp [State.flagsRead, h]

end Sys2Proof.Machine
end

