-- ==== Sys2Proof/Laws/Memory.lean ====
section
/-! SUPPORT. The laws of memory: what a read after a write gives, and that every memory operation keeps
the canonical form. -/

namespace Sys2Proof.Machine

/-! ## Cells -/

theorem Memory.read_erase_same (m : Memory) (a : Nat) : Memory.read (m.erase a) a = Config.unlistedByte := by
  induction m with
  | nil => rfl
  | cons c rest ih =>
    obtain ⟨k, x⟩ := c
    by_cases h : k = a
    · simpa [Memory.erase, h] using ih
    · simpa [Memory.erase, h, Memory.read] using ih

theorem Memory.read_erase_other (m : Memory) (a b : Nat) (hb : b ≠ a) :
    Memory.read (m.erase a) b = m.read b := by
  induction m with
  | nil => rfl
  | cons c rest ih =>
    obtain ⟨k, x⟩ := c
    by_cases h : k = a
    · have hk : k ≠ b := fun e => hb (e ▸ h)
      simpa [Memory.erase, h, Memory.read, hk, Ne.symm hb] using ih
    · by_cases hk : k = b
      · simp [Memory.erase, Memory.read, hk, hb]
      · simpa [Memory.erase, h, Memory.read, hk] using ih

theorem Memory.read_insert_other (m : Memory) (a b : Nat) (v : Byte) (hb : b ≠ a) :
    Memory.read (m.insert a v) b = m.read b := by
  induction m with
  | nil => simp [Memory.insert, Memory.read, Ne.symm hb]
  | cons c rest ih =>
    obtain ⟨k, x⟩ := c
    by_cases h : a < k
    · simp [Memory.insert, h, Memory.read, Ne.symm hb]
    · simp only [Memory.insert, h, if_false, Memory.read, ih]

theorem Memory.read_insert_same (m : Memory) (a : Nat) (v : Byte) (hm : ∀ c ∈ m, c.1 ≠ a) :
    Memory.read (m.insert a v) a = v := by
  induction m with
  | nil => simp [Memory.insert, Memory.read]
  | cons c rest ih =>
    obtain ⟨k, x⟩ := c
    have hk : k ≠ a := hm (k, x) List.mem_cons_self
    by_cases h : a < k
    · simp [Memory.insert, h, Memory.read]
    · simpa [Memory.insert, h, Memory.read, hk] using ih fun c hc => hm c (List.mem_cons_of_mem _ hc)

theorem Memory.mem_erase (m : Memory) (a : Nat) (c : Host.Cell) (h : c ∈ m.erase a) : c ∈ m ∧ c.1 ≠ a := by
  simpa [Memory.erase] using h

/-! ## Reads after writes (20_memory.md R58) -/

@[simp] theorem Memory.read_write_same (m : Memory) (a : Nat) (v : Byte) : (m.write a v).read a = v := by
  unfold Memory.write
  split
  · rename_i h
    rw [h, Memory.read_erase_same]
  · exact Memory.read_insert_same _ _ _ fun c hc => (Memory.mem_erase m a c hc).2

theorem Memory.read_write_other (m : Memory) (a b : Nat) (v : Byte) (hb : b ≠ a) :
    (m.write a v).read b = m.read b := by
  unfold Memory.write
  split
  · exact Memory.read_erase_other m a b hb
  · rw [Memory.read_insert_other _ _ _ _ hb, Memory.read_erase_other _ _ _ hb]

/-! ## The canonical form -/

theorem Memory.mem_insert (m : Memory) (a : Nat) (v : Byte) (c : Host.Cell) (h : c ∈ m.insert a v) :
    c = (a, v) ∨ c ∈ m := by
  induction m with
  | nil => simpa [Memory.insert] using h
  | cons d rest ih =>
    obtain ⟨k, x⟩ := d
    by_cases hk : a < k
    · simpa [Memory.insert, hk] using h
    · simp only [Memory.insert, hk, if_false, List.mem_cons] at h
      rcases h with h | h
      · exact .inr (by simp [h])
      · exact (ih h).imp_right (List.mem_cons_of_mem _)

theorem Memory.insert_rising (m : Memory) (a : Nat) (v : Byte) (hm : m.Pairwise (fun x y => x.1 < y.1))
    (ha : ∀ c ∈ m, c.1 ≠ a) : (m.insert a v).Pairwise (fun x y => x.1 < y.1) := by
  induction m with
  | nil => simp [Memory.insert]
  | cons d rest ih =>
    obtain ⟨k, x⟩ := d
    obtain ⟨hk, hrest⟩ := List.pairwise_cons.1 hm
    by_cases h : a < k
    · simp only [Memory.insert, h, if_true]
      refine List.pairwise_cons.2 ⟨fun c hc => ?_, hm⟩
      rcases List.mem_cons.1 hc with rfl | hc
      · exact h
      · exact h.trans (hk c hc)
    · simp only [Memory.insert, h, if_false]
      have hka : k ≠ a := ha (k, x) List.mem_cons_self
      refine List.pairwise_cons.2 ⟨fun c hc => ?_, ih hrest fun c hc => ha c (List.mem_cons_of_mem _ hc)⟩
      rcases Memory.mem_insert rest a v c hc with rfl | hc
      · show k < a
        omega
      · exact hk c hc

theorem Memory.erase_wf (m : Memory) (a : Nat) (hm : m.wf) : Memory.wf (m.erase a) :=
  ⟨hm.1.filter _, fun c hc => hm.2 c (Memory.mem_erase m a c hc).1⟩

theorem Memory.write_wf (m : Memory) (a : Nat) (v : Byte) (ha : a < 65536) (hm : m.wf) :
    Memory.wf (m.write a v) := by
  have he := Memory.erase_wf m a hm
  unfold Memory.write
  split
  · exact he
  · rename_i hv
    refine ⟨Memory.insert_rising _ _ _ he.1 fun c hc => (Memory.mem_erase m a c hc).2, fun c hc => ?_⟩
    rcases Memory.mem_insert _ _ _ c hc with rfl | hc
    · exact ⟨ha, hv⟩
    · exact he.2 c hc

theorem Memory.loadFrom_wf (bs : List Byte) : ∀ (m : Memory) (a : Nat), m.wf → Memory.wf (m.loadFrom a bs) := by
  induction bs with
  | nil => exact fun m a hm => hm
  | cons b rest ih =>
    intro m a hm
    unfold Memory.loadFrom
    split
    · rename_i ha
      exact ih _ _ (Memory.write_wf m a b ha hm)
    · exact hm

/-! ## The state's accesses -/

@[simp] theorem State.readByte_writeByte_same (s : State) (a : Word) (v : Byte) :
    (s.writeByte a v).readByte a = v := by simp [State.readByte]

theorem State.readByte_writeByte_other (s : State) (a b : Word) (v : Byte) (h : b ≠ a) :
    (s.writeByte a v).readByte b = s.readByte b :=
  Memory.read_write_other _ _ _ _ fun e => h (BitVec.eq_of_toNat_eq e)

theorem State.readByte_writeByte (s : State) (a b : Word) (v : Byte) :
    (s.writeByte a v).readByte b = if b = a then v else s.readByte b := by
  split
  · rename_i h
    rw [h, State.readByte_writeByte_same]
  · rename_i h
    exact State.readByte_writeByte_other s a b v h

/-- The two bytes of a word never share an address, at 0xFFFF either (20_memory.md R56). -/
theorem Word.add_one_ne (a : Word) : a + 1 ≠ a := by
  intro h
  bv_omega

/-- Everything a two-byte write can do to a byte (20_memory.md R52). -/
theorem State.readByte_writeWord (s : State) (a b w : Word) :
    (s.writeWord a w).readByte b = if b = a + 1 then hi w else if b = a then lo w else s.readByte b := by
  unfold State.writeWord
  rw [State.readByte_writeByte, State.readByte_writeByte]

theorem State.writeByte_wf (s : State) (a : Word) (v : Byte) (h : s.mem.wf) : (s.writeByte a v).mem.wf :=
  Memory.write_wf _ _ _ a.isLt h

theorem State.writeWord_wf (s : State) (a w : Word) (h : s.mem.wf) : (s.writeWord a w).mem.wf :=
  State.writeByte_wf _ _ _ (State.writeByte_wf _ _ _ h)

/-- `push16` (43_stack_exchange.md R170): the only bytes it changes are the two at the new SP. -/
theorem State.readByte_push16 (s : State) (w b : Word) :
    (s.push16 w).readByte b
      = if b = s.sp - 2 + 1 then hi w else if b = s.sp - 2 then lo w else s.readByte b :=
  State.readByte_writeWord _ _ _ _

theorem State.push16_wf (s : State) (w : Word) (h : s.mem.wf) : (s.push16 w).mem.wf :=
  State.writeWord_wf (s.setSp (s.sp - 2)) _ _ h

/-- What `setOperand` can do to a byte of memory (40_execution_engine.md R113). -/
theorem State.readByte_setOperand (s : State) (d : Operand) (v : Byte) (b : Word) :
    (s.setOperand d v).readByte b
      = if d = .mem ∧ b = s.regs.hl then v else s.readByte b := by
  cases d with
  | reg r => simp [State.setOperand, State.setReg, State.readByte]
  | mem => simp [State.setOperand, State.readByte_writeByte]

theorem State.setOperand_wf (s : State) (d : Operand) (v : Byte) (h : s.mem.wf) :
    (s.setOperand d v).mem.wf := by
  cases d with
  | reg r => exact h
  | mem => exact State.writeByte_wf _ _ _ h

end Sys2Proof.Machine
end

