-- ==== Sys2Proof/Laws/Ops.lean ====
section
/-! SUPPORT. What the shared operations do, said once each: words and bytes, reads of a byte through an
update, operands and conditions as Safety.lean names them, the arithmetic helpers, encodings. -/

namespace Sys2Proof

/-! ## Words and bytes (00_scope.md R12) -/

theorem cat16_toNat (h l : Byte) : (cat16 h l).toNat = h.toNat * 256 + l.toNat := by
  rw [cat16, BitVec.toNat_append, ← Nat.shiftLeft_add_eq_or_of_lt l.isLt, Nat.shiftLeft_eq]

theorem lo_toNat (w : Word) : (lo w).toNat = w.toNat % 256 := by simp [lo]

theorem hi_toNat (w : Word) : (hi w).toNat = w.toNat / 256 := by
  have := w.isLt
  simp [hi, Nat.shiftRight_eq_div_pow]
  omega

@[simp] theorem hi_cat16 (h l : Byte) : hi (cat16 h l) = h := by
  apply BitVec.eq_of_toNat_eq
  rw [hi_toNat, cat16_toNat]
  omega

@[simp] theorem lo_cat16 (h l : Byte) : lo (cat16 h l) = l := by
  apply BitVec.eq_of_toNat_eq
  rw [lo_toNat, cat16_toNat]
  omega

@[simp] theorem cat16_hi_lo (w : Word) : cat16 (hi w) (lo w) = w := by
  apply BitVec.eq_of_toNat_eq
  rw [cat16_toNat, lo_toNat, hi_toNat]
  omega

namespace Machine

/-! ## A byte read through an update that is not a store -/

section
variable (s : State) (a : Word)

@[simp] theorem State.readByte_advance (n : Word) : (s.advance n).readByte a = s.readByte a := rfl
@[simp] theorem State.readByte_jump (n : Word) : (s.jump n).readByte a = s.readByte a := rfl
@[simp] theorem State.readByte_setReg (r : Reg) (v : Byte) : (s.setReg r v).readByte a = s.readByte a := rfl
@[simp] theorem State.readByte_setSp (w : Word) : (s.setSp w).readByte a = s.readByte a := rfl
@[simp] theorem State.readByte_dropTop : s.dropTop.readByte a = s.readByte a := rfl
@[simp] theorem State.readByte_setFlags (f : Flags) : (s.setFlags f).readByte a = s.readByte a := rfl
@[simp] theorem State.readByte_setCarry (v : Bool) : (s.setCarry v).readByte a = s.readByte a := rfl
@[simp] theorem State.readByte_flagsRead (n : Nat) : (s.flagsRead n).readByte a = s.readByte a := rfl
@[simp] theorem State.readByte_drawn (n : Nat) : (s.drawn n).readByte a = s.readByte a := rfl
@[simp] theorem State.readByte_emitIo (e : IoEvent) : (s.emitIo e).readByte a = s.readByte a := rfl
@[simp] theorem State.readByte_setInte (v : Bool) : (s.setInte v).readByte a = s.readByte a := rfl
@[simp] theorem State.readByte_halt : s.halt.readByte a = s.readByte a := rfl
@[simp] theorem State.readByte_report (op : Byte) : (s.report op).readByte a = s.readByte a := rfl
@[simp] theorem State.readByte_setPair (p : Pair) (w : Word) : (s.setPair p w).readByte a = s.readByte a := by
  cases p <;> rfl
@[simp] theorem State.readByte_setStackPair (p : StackPair) (w : Word) :
    (s.setStackPair p w).readByte a = s.readByte a := by cases p <;> rfl
@[simp] theorem State.readByte_stackPairRead (p : StackPair) :
    (s.stackPairRead p).readByte a = s.readByte a := by cases p <;> rfl

/-! ## Registers and pairs -/

@[simp] theorem Regs.a_set_a (g : Regs) (v : Byte) : (g.set .a v).a = v := rfl

theorem Regs.get_set (g : Regs) (r q : Reg) (v : Byte) :
    (g.set r v).get q = if q = r then v else g.get q := by
  cases r <;> cases q <;> rfl

theorem Regs.get_setBC (g : Regs) (w : Word) (q : Reg) :
    (g.setBC w).get q = if q = .b then hi w else if q = .c then lo w else g.get q := by
  cases q <;> rfl

theorem Regs.get_setDE (g : Regs) (w : Word) (q : Reg) :
    (g.setDE w).get q = if q = .d then hi w else if q = .e then lo w else g.get q := by
  cases q <;> rfl

theorem Regs.get_setHL (g : Regs) (w : Word) (q : Reg) :
    (g.setHL w).get q = if q = .h then hi w else if q = .l then lo w else g.get q := by
  cases q <;> rfl

/-- A register the pair is no view of stays (46_register_pair.md R234). -/
theorem State.get_setPair_other (p : Pair) (w : Word) (q : Reg) (h : q ∉ pairRegs p) :
    (s.setPair p w).regs.get q = s.regs.get q := by
  cases p <;> cases q <;> first | rfl | simp [pairRegs] at h

@[simp] theorem State.setPair_sp_sp (w : Word) : (s.setPair .sp w).sp = w := rfl

theorem State.setPair_sp_other (p : Pair) (w : Word) (h : p ≠ .sp) : (s.setPair p w).sp = s.sp := by
  cases p <;> first | rfl | exact absurd rfl h

@[simp] theorem pairSeen_setPair (p : Pair) (w : Word) : pairSeen (s.setPair p w) p = w := by
  cases p <;> simp [pairSeen, State.setPair, Regs.setBC, Regs.setDE, Regs.setHL]

@[simp] theorem pairSeen_advance (p : Pair) (n : Word) : pairSeen (s.advance n) p = pairSeen s p := rfl

theorem State.pair_eq (p : Pair) : s.pair p = pairSeen s p := by cases p <;> rfl

theorem State.indexAddr_eq (p : IndexPair) : s.indexAddr p = indexSeen s p := by cases p <;> rfl

theorem State.operand_eq (o : Operand) : s.operand o = operandSeen s o := by cases o <;> rfl

/-! ## Flags and conditions (40_execution_engine.md R118, R119) -/

theorem State.holds_eq (cc : Cond) : s.holds cc = conditionSeen s cc := by
  unfold State.holds State.flagBit conditionSeen
  cases s.params.flagModel <;> cases cc <;> simp [condTest]

theorem State.carry_eq : s.carry = carrySeen s := by
  unfold State.carry State.flagBit carrySeen
  cases s.params.flagModel <;> rfl

theorem State.takenBy_eq (i : Instr) : s.takenBy i = i.cond.map (conditionSeen s) := by
  unfold State.takenBy
  cases i.cond <;> simp [State.holds_eq]

/-- The draws of an instruction that reads `n` flags. -/
theorem State.flagsRead_drawsFlags (n : Nat) : DrawsFlags s (s.flagsRead n) n :=
  ⟨State.flagsRead_draws_intel s n, State.flagsRead_draws_unmodelled s n⟩

/-! ## Conditional forms (42_control_transfer.md R151, R153, R155) -/

theorem State.jumpIf_eq (cc : Cond) (target : Word) :
    s.jumpIf cc target = (s.flagsRead 1).jump (if conditionSeen s cc then target else s.pc + 3) := by
  unfold State.jumpIf
  rw [State.holds_eq]
  split <;> rfl

theorem State.callIf_taken (cc : Cond) (target : Word) (h : conditionSeen s cc = true) :
    s.callIf cc target = (s.flagsRead 1).callTo target := by
  rw [State.callIf, State.holds_eq, if_pos h]

theorem State.callIf_notTaken (cc : Cond) (target : Word) (h : conditionSeen s cc = false) :
    s.callIf cc target = (s.flagsRead 1).advance 3 := by
  rw [State.callIf, State.holds_eq, h]
  rfl

theorem State.returnIf_taken (cc : Cond) (h : conditionSeen s cc = true) :
    s.returnIf cc = (s.flagsRead 1).returnNow := by
  rw [State.returnIf, State.holds_eq, if_pos h]

theorem State.returnIf_notTaken (cc : Cond) (h : conditionSeen s cc = false) :
    s.returnIf cc = (s.flagsRead 1).advance 1 := by
  rw [State.returnIf, State.holds_eq, h]
  rfl

end

/-! ## The arithmetic helpers (40_execution_engine.md R115, R116) -/

theorem add8_isSum (a b : Byte) (cin : Bool) : IsSum (add8 a b cin).value a b cin := by
  simp [IsSum, add8]

theorem sub8_isDifference (a b : Byte) (bin : Bool) : IsDifference (sub8 a b bin).value a b bin := by
  have := a.isLt
  have := b.isLt
  cases bin <;> simp [IsDifference, sub8, BitVec.toNat_not] <;> omega

/-- S is bit 7, the sign of the byte. -/
theorem getLsbD_seven (r : Byte) : r.getLsbD 7 = decide (128 ≤ r.toNat) := by
  revert r
  decide

theorem parity_eq (r : Byte) :
    parity r = decide ((List.range 8).countP (fun k => r.getLsbD k) % 2 = 0) := by
  revert r
  decide

theorem beq_zero (r : Byte) : (r == 0) = decide (r.toNat = 0) := by
  rw [Bool.eq_iff_iff]
  simp [← BitVec.toNat_inj]

/-- S, Z and P as the helpers compute them (00_scope.md R14). -/
theorem szpSeen_intro (f : Flags) (r : Byte) (hs : f.s = r.getLsbD 7) (hz : f.z = (r == 0))
    (hp : f.p = parity r) : SzpSeen f r :=
  ⟨hs.trans (getLsbD_seven r), hz.trans (beq_zero r), hp.trans (parity_eq r)⟩

/-- Bit 8 of a sum below 512 is its carry. -/
theorem testBit_eight (t : Nat) (h : t < 512) : t.testBit 8 = decide (256 ≤ t) := by
  rw [Nat.testBit_eq_decide_div_mod_eq]
  congr 1
  rw [eq_iff_iff]
  omega

theorem add8_sumFlags (a b : Byte) (cin : Bool) : SumFlags (add8 a b cin).flags a b cin (add8 a b cin).value := by
  refine ⟨testBit_eight _ ?_, rfl, szpSeen_intro _ _ rfl rfl rfl⟩
  have := a.isLt
  have := b.isLt
  have := Bool.toNat_le cin
  omega

theorem sub8_differenceFlags (a b : Byte) (bin : Bool) :
    DifferenceFlags (sub8 a b bin).flags a b bin (sub8 a b bin).value := by
  have := a.isLt
  have := b.isLt
  refine ⟨?_, ?_, szpSeen_intro _ _ rfl rfl rfl⟩
  · simp only [sub8]
    rw [testBit_eight _ (by have := (~~~b).isLt; have := Bool.toNat_le (!bin); omega), Bool.eq_iff_iff]
    cases bin <;> simp [BitVec.toNat_not] <;> omega
  · cases bin <;> simp [sub8, lowNibble, BitVec.toNat_not]

/-! ## Encodings -/

/-- An encoding of one byte, from the decoder's answer on that byte. -/
theorem EncodedAs.one {i : Instr} {x : Byte} {st : Stage}
    (h : ∀ (decodeExtra : Bool) (b1 b2 : Byte), i.wf decodeExtra = true →
      (decode decodeExtra x b1 b2).instr = i ∧ (decode decodeExtra x b1 b2).stage = st
        ∧ (decode decodeExtra x b1 b2).length = 1) : EncodedAs i [x] st := by
  intro decodeExtra b0 b1 b2 hw hp
  obtain ⟨rfl, -⟩ := List.cons_prefix_cons.1 hp
  exact h decodeExtra b1 b2 hw

/-- An encoding of two bytes. -/
theorem EncodedAs.two {i : Instr} {x y : Byte} {st : Stage}
    (h : ∀ (decodeExtra : Bool) (b2 : Byte), i.wf decodeExtra = true →
      (decode decodeExtra x y b2).instr = i ∧ (decode decodeExtra x y b2).stage = st
        ∧ (decode decodeExtra x y b2).length = 2) : EncodedAs i [x, y] st := by
  intro decodeExtra b0 b1 b2 hw hp
  simp only [List.cons_prefix_cons, List.nil_prefix, and_true] at hp
  obtain ⟨rfl, rfl⟩ := hp
  exact h decodeExtra b2 hw

/-- An encoding of three bytes. -/
theorem EncodedAs.three {i : Instr} {x y z : Byte} {st : Stage}
    (h : ∀ decodeExtra : Bool, i.wf decodeExtra = true →
      (decode decodeExtra x y z).instr = i ∧ (decode decodeExtra x y z).stage = st
        ∧ (decode decodeExtra x y z).length = 3) : EncodedAs i [x, y, z] st := by
  intro decodeExtra b0 b1 b2 hw hp
  simp only [List.cons_prefix_cons, List.nil_prefix, and_true] at hp
  obtain ⟨rfl, rfl, rfl⟩ := hp
  exact h decodeExtra hw

end Machine

end Sys2Proof
end

