-- ==== Sys2Proof/Laws/PerInstr.lean ====
section
/-! SUPPORT. One lemma per constructor of `Instr`: an instruction's encoding has the length of its form
(30_encoding.md R89). -/

namespace Sys2Proof.Laws.EncodeLength

/-- The encoder emits as many bytes as the form's length (30_encoding.md R89). -/
def Statement (i : Instr) : Prop := (encode i).length = i.length

theorem nop : Statement .nop := rfl
theorem hlt : Statement .hlt := rfl
theorem ei : Statement .ei := rfl
theorem di : Statement .di := rfl
theorem jmp (target : Word) : Statement (.jmp target) := rfl
theorem jnz (target : Word) : Statement (.jnz target) := rfl
theorem jz (target : Word) : Statement (.jz target) := rfl
theorem jnc (target : Word) : Statement (.jnc target) := rfl
theorem jc (target : Word) : Statement (.jc target) := rfl
theorem jpo (target : Word) : Statement (.jpo target) := rfl
theorem jpe (target : Word) : Statement (.jpe target) := rfl
theorem jp (target : Word) : Statement (.jp target) := rfl
theorem jm (target : Word) : Statement (.jm target) := rfl
theorem call (target : Word) : Statement (.call target) := rfl
theorem cnz (target : Word) : Statement (.cnz target) := rfl
theorem cz (target : Word) : Statement (.cz target) := rfl
theorem cnc (target : Word) : Statement (.cnc target) := rfl
theorem cc (target : Word) : Statement (.cc target) := rfl
theorem cpo (target : Word) : Statement (.cpo target) := rfl
theorem cpe (target : Word) : Statement (.cpe target) := rfl
theorem cp (target : Word) : Statement (.cp target) := rfl
theorem cm (target : Word) : Statement (.cm target) := rfl
theorem ret : Statement .ret := rfl
theorem rnz : Statement .rnz := rfl
theorem rz : Statement .rz := rfl
theorem rnc : Statement .rnc := rfl
theorem rc : Statement .rc := rfl
theorem rpo : Statement .rpo := rfl
theorem rpe : Statement .rpe := rfl
theorem rp : Statement .rp := rfl
theorem rm : Statement .rm := rfl
theorem rst (n : BitVec 3) : Statement (.rst n) := rfl
theorem pchl : Statement .pchl := rfl
theorem push (p : StackPair) : Statement (.push p) := by cases p <;> rfl
theorem pop (p : StackPair) : Statement (.pop p) := by cases p <;> rfl
theorem xthl : Statement .xthl := rfl
theorem xchg : Statement .xchg := rfl
theorem sphl : Statement .sphl := rfl
theorem rlc : Statement .rlc := rfl
theorem rrc : Statement .rrc := rfl
theorem ral : Statement .ral := rfl
theorem rar : Statement .rar := rfl
theorem cma : Statement .cma := rfl
theorem stc : Statement .stc := rfl
theorem cmc : Statement .cmc := rfl
theorem daa : Statement .daa := rfl
theorem add (src : Operand) : Statement (.add src) := by cases src <;> rfl
theorem adc (src : Operand) : Statement (.adc src) := by cases src <;> rfl
theorem sub (src : Operand) : Statement (.sub src) := by cases src <;> rfl
theorem sbb (src : Operand) : Statement (.sbb src) := by cases src <;> rfl
theorem ana (src : Operand) : Statement (.ana src) := by cases src <;> rfl
theorem xra (src : Operand) : Statement (.xra src) := by cases src <;> rfl
theorem ora (src : Operand) : Statement (.ora src) := by cases src <;> rfl
theorem cmp (src : Operand) : Statement (.cmp src) := by cases src <;> rfl
theorem adi (imm : Byte) : Statement (.adi imm) := rfl
theorem aci (imm : Byte) : Statement (.aci imm) := rfl
theorem sui (imm : Byte) : Statement (.sui imm) := rfl
theorem sbi (imm : Byte) : Statement (.sbi imm) := rfl
theorem ani (imm : Byte) : Statement (.ani imm) := rfl
theorem xri (imm : Byte) : Statement (.xri imm) := rfl
theorem ori (imm : Byte) : Statement (.ori imm) := rfl
theorem cpi (imm : Byte) : Statement (.cpi imm) := rfl
theorem inr (dst : Operand) : Statement (.inr dst) := by cases dst <;> rfl
theorem dcr (dst : Operand) : Statement (.dcr dst) := by cases dst <;> rfl
theorem lxi (p : Pair) (imm : Word) : Statement (.lxi p imm) := rfl
theorem dad (p : Pair) : Statement (.dad p) := rfl
theorem inx (p : Pair) : Statement (.inx p) := rfl
theorem dcx (p : Pair) : Statement (.dcx p) := rfl
theorem mov (dst : Operand) (src : Operand) : Statement (.mov dst src) := by cases dst <;> cases src <;> rfl
theorem mvi (dst : Operand) (imm : Byte) : Statement (.mvi dst imm) := by cases dst <;> rfl
theorem lda (addr : Word) : Statement (.lda addr) := rfl
theorem sta (addr : Word) : Statement (.sta addr) := rfl
theorem lhld (addr : Word) : Statement (.lhld addr) := rfl
theorem shld (addr : Word) : Statement (.shld addr) := rfl
theorem ldax (p : IndexPair) : Statement (.ldax p) := rfl
theorem stax (p : IndexPair) : Statement (.stax p) := rfl
theorem inp (port : Byte) : Statement (.inp port) := rfl
theorem out (port : Byte) : Statement (.out port) := rfl
theorem unrecognized (op : Byte) : Statement (.unrecognized op) := rfl

end Sys2Proof.Laws.EncodeLength
end

