-- ==== Sys2Proof/Tests/Slice0.lean ====
section
/-! SUPPORT. Tests: ill-formed terms refused, words from the spec's encodings decoded, execution vectors of
95_test_vectors.md, and a witness for the hypotheses of each statement. Expected values come from spec/. -/

namespace Sys2Proof.Tests

open Sys2Proof.Machine

/-! ## Small states -/

/-- 95_test_vectors.md, conventions: pc 0x0100, nothing pending, the default parameters. -/
def start : State := { State.reset with pc := 0x0100 }

/-- The same with `FLAG_MODEL = unmodelled`. -/
def startUnmodelled : State := { start with params := { Params.default with flagModel := .unmodelled } }

/-- The next state of a step; the state itself where there is none. -/
def ran (s : State) : State :=
  match step s with
  | .next t => t
  | .fault _ | .refused _ => s

/-- A state with bytes at addresses. -/
def put (s : State) (cells : List (Word × Byte)) : State :=
  cells.foldl (fun s c => s.writeByte c.1 c.2) s

/-- The flags S Z AC P CY. -/
def flagsOf (s z ac p cy : Nat) : Flags := { s := s == 1, z := z == 1, ac := ac == 1, p := p == 1, cy := cy == 1 }

/-! ## WellFormed refuses -/

theorem test_wf_refuses_mov_m_m : Instr.wf true (.mov .mem .mem) = false := by decide
theorem test_wf_refuses_daa_without_extra : Instr.wf false .daa = false := by decide
theorem test_wf_refuses_sphl_without_extra : Instr.wf false .sphl = false := by decide
theorem test_wf_refuses_in_without_extra : Instr.wf false (.inp 0x01) = false := by decide
theorem test_wf_refuses_out_without_extra : Instr.wf false (.out 0x01) = false := by decide
theorem test_wf_refuses_unrecognized_nop : Instr.wf true (.unrecognized 0x00) = false := by decide
theorem test_wf_refuses_unrecognized_daa_with_extra : Instr.wf true (.unrecognized 0x27) = false := by decide
theorem test_wf_admits : Instr.wf true (.unrecognized 0x08) = true ∧ Instr.wf false (.unrecognized 0x27) = true
    ∧ Instr.wf true .daa = true ∧ Instr.wf false (.mov .mem (.reg .a)) = true := by decide

/-! ## Words written out from 30_encoding.md R79 and R81, every constructor

The stage 1 bytes of R79, then the patterns of R81 with their fields filled in. -/

theorem test_decode_machine_control :
    (decode true 0x00 0x00 0x00).instr = .nop
      ∧ (decode true 0x76 0x00 0x00).instr = .hlt
      ∧ (decode true 0xFB 0x00 0x00).instr = .ei
      ∧ (decode true 0xF3 0x00 0x00).instr = .di := by decide

theorem test_decode_jumps :
    (decode true 0xC3 0x34 0x12).instr = .jmp 0x1234
      ∧ (decode true 0b11101001 0x00 0x00).instr = .pchl
      ∧ (decode true 0b11000010 0x34 0x12).instr = .jnz 0x1234
      ∧ (decode true 0b11001010 0x34 0x12).instr = .jz 0x1234
      ∧ (decode true 0b11010010 0x34 0x12).instr = .jnc 0x1234
      ∧ (decode true 0b11011010 0x34 0x12).instr = .jc 0x1234
      ∧ (decode true 0b11100010 0x34 0x12).instr = .jpo 0x1234
      ∧ (decode true 0b11101010 0x34 0x12).instr = .jpe 0x1234
      ∧ (decode true 0b11110010 0x34 0x12).instr = .jp 0x1234
      ∧ (decode true 0b11111010 0x34 0x12).instr = .jm 0x1234 := by decide

theorem test_decode_calls :
    (decode true 0xCD 0x34 0x12).instr = .call 0x1234
      ∧ (decode true 0b11101111 0x00 0x00).instr = .rst 5
      ∧ (decode true 0b11000111 0x00 0x00).instr = .rst 0
      ∧ (decode true 0b11111111 0x00 0x00).instr = .rst 7
      ∧ (decode true 0b11000100 0x34 0x12).instr = .cnz 0x1234
      ∧ (decode true 0b11001100 0x34 0x12).instr = .cz 0x1234
      ∧ (decode true 0b11010100 0x34 0x12).instr = .cnc 0x1234
      ∧ (decode true 0b11011100 0x34 0x12).instr = .cc 0x1234
      ∧ (decode true 0b11100100 0x34 0x12).instr = .cpo 0x1234
      ∧ (decode true 0b11101100 0x34 0x12).instr = .cpe 0x1234
      ∧ (decode true 0b11110100 0x34 0x12).instr = .cp 0x1234
      ∧ (decode true 0b11111100 0x34 0x12).instr = .cm 0x1234 := by decide

theorem test_decode_returns :
    (decode true 0xC9 0x00 0x00).instr = .ret
      ∧ (decode true 0b11000000 0x00 0x00).instr = .rnz
      ∧ (decode true 0b11001000 0x00 0x00).instr = .rz
      ∧ (decode true 0b11010000 0x00 0x00).instr = .rnc
      ∧ (decode true 0b11011000 0x00 0x00).instr = .rc
      ∧ (decode true 0b11100000 0x00 0x00).instr = .rpo
      ∧ (decode true 0b11101000 0x00 0x00).instr = .rpe
      ∧ (decode true 0b11110000 0x00 0x00).instr = .rp
      ∧ (decode true 0b11111000 0x00 0x00).instr = .rm := by decide

theorem test_decode_stack :
    (decode true 0b11000101 0x00 0x00).instr = .push .bc
      ∧ (decode true 0b11010101 0x00 0x00).instr = .push .de
      ∧ (decode true 0b11100101 0x00 0x00).instr = .push .hl
      ∧ (decode true 0b11110101 0x00 0x00).instr = .push .psw
      ∧ (decode true 0b11000001 0x00 0x00).instr = .pop .bc
      ∧ (decode true 0b11010001 0x00 0x00).instr = .pop .de
      ∧ (decode true 0b11100001 0x00 0x00).instr = .pop .hl
      ∧ (decode true 0b11110001 0x00 0x00).instr = .pop .psw
      ∧ (decode true 0xE3 0x00 0x00).instr = .xthl
      ∧ (decode true 0xEB 0x00 0x00).instr = .xchg
      ∧ (decode true 0xF9 0x00 0x00).instr = .sphl := by decide

theorem test_decode_rotates :
    (decode true 0x07 0x00 0x00).instr = .rlc
      ∧ (decode true 0x0F 0x00 0x00).instr = .rrc
      ∧ (decode true 0x17 0x00 0x00).instr = .ral
      ∧ (decode true 0x1F 0x00 0x00).instr = .rar
      ∧ (decode true 0x2F 0x00 0x00).instr = .cma
      ∧ (decode true 0x37 0x00 0x00).instr = .stc
      ∧ (decode true 0x3F 0x00 0x00).instr = .cmc
      ∧ (decode true 0x27 0x00 0x00).instr = .daa := by decide

theorem test_decode_alu :
    (decode true 0b10000110 0x00 0x00).instr = .add .mem
      ∧ (decode true 0b10001111 0x00 0x00).instr = .adc (.reg .a)
      ∧ (decode true 0b10010110 0x00 0x00).instr = .sub .mem
      ∧ (decode true 0b10011111 0x00 0x00).instr = .sbb (.reg .a)
      ∧ (decode true 0b10100110 0x00 0x00).instr = .ana .mem
      ∧ (decode true 0b10101111 0x00 0x00).instr = .xra (.reg .a)
      ∧ (decode true 0b10110110 0x00 0x00).instr = .ora .mem
      ∧ (decode true 0b10111111 0x00 0x00).instr = .cmp (.reg .a) := by decide

theorem test_decode_alu_immediate :
    (decode true 0xC6 0x5A 0x00).instr = .adi 0x5A
      ∧ (decode true 0xCE 0x5A 0x00).instr = .aci 0x5A
      ∧ (decode true 0xD6 0x5A 0x00).instr = .sui 0x5A
      ∧ (decode true 0xDE 0x5A 0x00).instr = .sbi 0x5A
      ∧ (decode true 0xE6 0x5A 0x00).instr = .ani 0x5A
      ∧ (decode true 0xEE 0x5A 0x00).instr = .xri 0x5A
      ∧ (decode true 0xF6 0x5A 0x00).instr = .ori 0x5A
      ∧ (decode true 0xFE 0x5A 0x00).instr = .cpi 0x5A := by decide

theorem test_decode_alu_registers :
    (decode true 0b10000000 0x00 0x00).instr = .add (.reg .b)
      ∧ (decode true 0b10000001 0x00 0x00).instr = .add (.reg .c)
      ∧ (decode true 0b10000010 0x00 0x00).instr = .add (.reg .d)
      ∧ (decode true 0b10000011 0x00 0x00).instr = .add (.reg .e)
      ∧ (decode true 0b10000100 0x00 0x00).instr = .add (.reg .h)
      ∧ (decode true 0b10000101 0x00 0x00).instr = .add (.reg .l)
      ∧ (decode true 0b10000110 0x00 0x00).instr = .add .mem
      ∧ (decode true 0b10000111 0x00 0x00).instr = .add (.reg .a) := by decide

theorem test_decode_inr_dcr :
    (decode true 0b00110100 0x00 0x00).instr = .inr .mem
      ∧ (decode true 0b00001100 0x00 0x00).instr = .inr (.reg .c)
      ∧ (decode true 0b00110101 0x00 0x00).instr = .dcr .mem
      ∧ (decode true 0b00111101 0x00 0x00).instr = .dcr (.reg .a) := by decide

theorem test_decode_pairs :
    (decode true 0b00000001 0x34 0x12).instr = .lxi .bc 0x1234
      ∧ (decode true 0b00010001 0x34 0x12).instr = .lxi .de 0x1234
      ∧ (decode true 0b00100001 0x34 0x12).instr = .lxi .hl 0x1234
      ∧ (decode true 0b00110001 0x34 0x12).instr = .lxi .sp 0x1234
      ∧ (decode true 0b00001001 0x00 0x00).instr = .dad .bc
      ∧ (decode true 0b00111001 0x00 0x00).instr = .dad .sp
      ∧ (decode true 0b00010011 0x00 0x00).instr = .inx .de
      ∧ (decode true 0b00101011 0x00 0x00).instr = .dcx .hl := by decide

theorem test_decode_transfer :
    (decode true 0b01111000 0x00 0x00).instr = .mov (.reg .a) (.reg .b)
      ∧ (decode true 0b01000111 0x00 0x00).instr = .mov (.reg .b) (.reg .a)
      ∧ (decode true 0b01100110 0x00 0x00).instr = .mov (.reg .h) .mem
      ∧ (decode true 0b01110101 0x00 0x00).instr = .mov .mem (.reg .l)
      ∧ (decode true 0b00110110 0xFF 0x00).instr = .mvi .mem 0xFF
      ∧ (decode true 0b00111110 0x42 0x00).instr = .mvi (.reg .a) 0x42
      ∧ (decode true 0x3A 0x00 0x20).instr = .lda 0x2000
      ∧ (decode true 0x32 0x00 0x20).instr = .sta 0x2000
      ∧ (decode true 0x2A 0x5B 0x02).instr = .lhld 0x025B
      ∧ (decode true 0x22 0x0A 0x01).instr = .shld 0x010A
      ∧ (decode true 0b00001010 0x00 0x00).instr = .ldax .bc
      ∧ (decode true 0b00011010 0x00 0x00).instr = .ldax .de
      ∧ (decode true 0b00000010 0x00 0x00).instr = .stax .bc
      ∧ (decode true 0b00010010 0x00 0x00).instr = .stax .de := by decide

theorem test_decode_ports :
    (decode true 0xDB 0x01 0x00).instr = .inp 0x01
      ∧ (decode true 0xD3 0x03 0x00).instr = .out 0x03 := by decide

theorem test_decode_unrecognized :
    (decode true 0x08 0x00 0x00).instr = .unrecognized 0x08
      ∧ (decode true 0x10 0x00 0x00).instr = .unrecognized 0x10
      ∧ (decode true 0x18 0x00 0x00).instr = .unrecognized 0x18
      ∧ (decode true 0x20 0x00 0x00).instr = .unrecognized 0x20
      ∧ (decode true 0x28 0x00 0x00).instr = .unrecognized 0x28
      ∧ (decode true 0x30 0x00 0x00).instr = .unrecognized 0x30
      ∧ (decode true 0x38 0x00 0x00).instr = .unrecognized 0x38
      ∧ (decode true 0xCB 0x00 0x00).instr = .unrecognized 0xCB
      ∧ (decode true 0xD9 0x00 0x00).instr = .unrecognized 0xD9
      ∧ (decode true 0xDD 0x00 0x00).instr = .unrecognized 0xDD
      ∧ (decode true 0xED 0x00 0x00).instr = .unrecognized 0xED
      ∧ (decode true 0xFD 0x00 0x00).instr = .unrecognized 0xFD := by decide

theorem test_decode_without_extra :
    (decode false 0x27 0x00 0x00).instr = .unrecognized 0x27
      ∧ (decode false 0xD3 0x00 0x00).instr = .unrecognized 0xD3
      ∧ (decode false 0xDB 0x00 0x00).instr = .unrecognized 0xDB
      ∧ (decode false 0xF9 0x00 0x00).instr = .unrecognized 0xF9 := by decide

/-- The encoder against the same patterns. -/
theorem test_encode :
    encode (.jmp 0x1234) = [0xC3, 0x34, 0x12] ∧ encode (.mov (.reg .a) (.reg .b)) = [0b01111000]
      ∧ encode (.mvi .mem 0xFF) = [0b00110110, 0xFF] ∧ encode (.rst 5) = [0b11101111]
      ∧ encode (.push .psw) = [0b11110101] ∧ encode (.cm 0x1234) = [0b11111100, 0x34, 0x12] := by decide

/-- `decodeTableWord` numbers the first byte from bit 0. -/
theorem test_decodeTableWord :
    decodeTableWord 24 0x1234C3 = some (.jmp 0x1234) ∧ decodeTableWord 8 0xC3 = some (.jmp 0x0000)
      ∧ decodeTableWord 16 0x42C6 = some (.adi 0x42) := by decide

/-- `withFetchWord` runs the word as the first instruction after reset. -/
theorem test_withFetchWord_runs :
    (ran (State.reset.withFetchWord 24 0x1234C3)).pc = 0x1234
      ∧ ((ran (State.reset.withFetchWord 16 0x42C6)).trace.map (fun r => r.decoded.instr)) = [.adi 0x42] := by decide

/-! ## Execution vectors of 95_test_vectors.md, sections 3 to 5 -/

/-- V-MC-1: `NOP`. -/
theorem test_V_MC_1 :
    let t := ran (start.withFetchWord 8 0x00)
    t.pc = 0x0101 ∧ t.flags = flagsOf 0 0 0 0 0 ∧ t.stall = 0 := by decide

/-- V-MC-2: `HLT`. -/
theorem test_V_MC_2 :
    let t := ran (start.withFetchWord 8 0x76)
    t.pc = 0x0101 ∧ t.flags = flagsOf 0 0 0 0 0 ∧ t.halted = true ∧ t.stall = 0 := by decide

/-- V-MC-3: `EI`. -/
theorem test_V_MC_3 :
    let t := ran (start.withFetchWord 8 0xFB)
    t.pc = 0x0101 ∧ t.flags = flagsOf 0 0 0 0 0 ∧ t.inte = true ∧ t.stall = 0 := by decide

/-- V-MC-4: `DI`. -/
theorem test_V_MC_4 :
    let t := ran (({ start with inte := true }).withFetchWord 8 0xF3)
    t.pc = 0x0101 ∧ t.flags = flagsOf 0 0 0 0 0 ∧ t.inte = false ∧ t.stall = 0 := by decide

/-- V-CT-1: `JMP a16`. -/
theorem test_V_CT_1 :
    let t := ran (start.withFetchWord 24 0x1234C3)
    t.pc = 0x1234 ∧ t.flags = flagsOf 0 0 0 0 0 ∧ t.stall = 2 := by decide

/-- V-CT-2: `JMP a16`. -/
theorem test_V_CT_2 :
    let t := ran (start.withFetchWord 24 0x0100C3)
    t.pc = 0x0100 ∧ t.flags = flagsOf 0 0 0 0 0 ∧ t.stall = 2 := by decide

/-- V-CT-3: `JNZ a16`. -/
theorem test_V_CT_3 :
    let t := ran (start.withFetchWord 24 0x2000C2)
    t.pc = 0x2000 ∧ t.flags = flagsOf 0 0 0 0 0 ∧ t.stall = 2 := by decide

/-- V-CT-4: `JNZ a16`. -/
theorem test_V_CT_4 :
    let t := ran (({ start with flags := flagsOf 0 1 0 0 0 }).withFetchWord 24 0x2000C2)
    t.pc = 0x0103 ∧ t.flags = flagsOf 0 1 0 0 0 ∧ t.stall = 2 := by decide

/-- V-CT-5: `JPE a16`. -/
theorem test_V_CT_5 :
    let t := ran (({ start with flags := flagsOf 0 0 0 1 0 }).withFetchWord 24 0x2000EA)
    t.pc = 0x2000 ∧ t.flags = flagsOf 0 0 0 1 0 ∧ t.stall = 2 := by decide

/-- V-CT-6: `JM a16`. -/
theorem test_V_CT_6 :
    let t := ran (start.withFetchWord 24 0x2000FA)
    t.pc = 0x0103 ∧ t.flags = flagsOf 0 0 0 0 0 ∧ t.stall = 2 := by decide

/-- V-CT-7: `CALL a16`. -/
theorem test_V_CT_7 :
    let t := ran (({ start with sp := 0x2400 }).withFetchWord 24 0x3000CD)
    t.pc = 0x3000 ∧ t.sp = 0x23FE ∧ t.readByte 0x23FE = 0x03 ∧ t.readByte 0x23FF = 0x01
      ∧ t.flags = flagsOf 0 0 0 0 0 ∧ t.stall = 4 := by decide

/-- V-CT-8: `CC a16`. -/
theorem test_V_CT_8 :
    let s := { start with sp := 0x2400, flags := flagsOf 0 0 0 0 1 }
    let t := ran (s.withFetchWord 24 0x3000DC)
    t.pc = 0x3000 ∧ t.sp = 0x23FE ∧ t.readByte 0x23FE = 0x03 ∧ t.readByte 0x23FF = 0x01
      ∧ t.flags = flagsOf 0 0 0 0 1 ∧ t.stall = 4 := by decide

/-- V-CT-9: `CC a16`. -/
theorem test_V_CT_9 :
    let t := ran (({ start with sp := 0x2400 }).withFetchWord 24 0x3000DC)
    t.pc = 0x0103 ∧ t.flags = flagsOf 0 0 0 0 0 ∧ t.stall = 2 := by decide

/-- V-CT-10: `RET`. -/
theorem test_V_CT_10 :
    let s := put { start with sp := 0x23FE } [(0x23FE, 0x03), (0x23FF, 0x01)]
    let t := ran (s.withFetchWord 8 0xC9)
    t.pc = 0x0103 ∧ t.sp = 0x2400 ∧ t.flags = flagsOf 0 0 0 0 0 ∧ t.stall = 2 := by decide

/-- V-CT-11: `RZ`. -/
theorem test_V_CT_11 :
    let s :=
      put { start with sp := 0x23FE, flags := flagsOf 0 1 0 0 0 }
        [(0x23FE, 0x03), (0x23FF, 0x01)]
    let t := ran (s.withFetchWord 8 0xC8)
    t.pc = 0x0103 ∧ t.sp = 0x2400 ∧ t.flags = flagsOf 0 1 0 0 0 ∧ t.stall = 2 := by decide

/-- V-CT-12: `RZ`. -/
theorem test_V_CT_12 :
    let s := put { start with sp := 0x23FE } [(0x23FE, 0x03), (0x23FF, 0x01)]
    let t := ran (s.withFetchWord 8 0xC8)
    t.pc = 0x0101 ∧ t.flags = flagsOf 0 0 0 0 0 ∧ t.stall = 0 := by decide

/-- V-CT-13: `RST 1`. -/
theorem test_V_CT_13 :
    let t := ran (({ start with sp := 0x2400 }).withFetchWord 8 0xCF)
    t.pc = 0x0008 ∧ t.sp = 0x23FE ∧ t.readByte 0x23FE = 0x01 ∧ t.readByte 0x23FF = 0x01
      ∧ t.flags = flagsOf 0 0 0 0 0 ∧ t.stall = 2 := by decide

/-- V-CT-14: `RST 7`. -/
theorem test_V_CT_14 :
    let t := ran (({ start with sp := 0x2400 }).withFetchWord 8 0xFF)
    t.pc = 0x0038 ∧ t.sp = 0x23FE ∧ t.readByte 0x23FE = 0x01 ∧ t.readByte 0x23FF = 0x01
      ∧ t.flags = flagsOf 0 0 0 0 0 ∧ t.stall = 2 := by decide

/-- V-CT-15: `PCHL`. -/
theorem test_V_CT_15 :
    let s := { start with regs := { start.regs with h := 0x41, l := 0x3E } }
    let t := ran (s.withFetchWord 8 0xE9)
    t.pc = 0x413E ∧ t.flags = flagsOf 0 0 0 0 0 ∧ t.stall = 0 := by decide

/-- V-CT-16: `CALL a16`. -/
theorem test_V_CT_16 :
    let t := ran (({ start with sp := 0x0001 }).withFetchWord 24 0x3000CD)
    t.pc = 0x3000 ∧ t.sp = 0xFFFF ∧ t.readByte 0x0000 = 0x01 ∧ t.readByte 0xFFFF = 0x03
      ∧ t.flags = flagsOf 0 0 0 0 0 ∧ t.stall = 4 := by decide

/-- V-ST-1: `PUSH B`. -/
theorem test_V_ST_1 :
    let s := { start with sp := 0x2400, regs := { start.regs with b := 0x12, c := 0x34 } }
    let t := ran (s.withFetchWord 8 0xC5)
    t.pc = 0x0101 ∧ t.sp = 0x23FE ∧ t.readByte 0x23FE = 0x34 ∧ t.readByte 0x23FF = 0x12
      ∧ t.flags = flagsOf 0 0 0 0 0 ∧ t.stall = 2 := by decide

/-- V-ST-2: `PUSH PSW`. -/
theorem test_V_ST_2 :
    let s :=
      { start with sp := 0x2400, flags := flagsOf 1 0 1 0 1, regs := { start.regs with a := 0x5A } }
    let t := ran (s.withFetchWord 8 0xF5)
    t.pc = 0x0101 ∧ t.sp = 0x23FE ∧ t.readByte 0x23FE = 0x93 ∧ t.readByte 0x23FF = 0x5A
      ∧ t.flags = flagsOf 1 0 1 0 1 ∧ t.stall = 2 := by decide

/-- V-ST-3: `POP PSW`. -/
theorem test_V_ST_3 :
    let s := put { start with sp := 0x23FE } [(0x23FE, 0xFF), (0x23FF, 0x00)]
    let t := ran (s.withFetchWord 8 0xF1)
    t.pc = 0x0101 ∧ t.regs.a = 0x00 ∧ t.sp = 0x2400 ∧ t.flags = flagsOf 1 1 1 1 1 ∧ t.stall = 2 := by decide

/-- V-ST-4: `POP D`. -/
theorem test_V_ST_4 :
    let t := ran ((put start [(0x0000, 0x12), (0xFFFF, 0x34)]).withFetchWord 8 0xD1)
    t.pc = 0x0101 ∧ t.regs.d = 0x12 ∧ t.regs.e = 0x34 ∧ t.sp = 0x0001
      ∧ t.flags = flagsOf 0 0 0 0 0 ∧ t.stall = 2 := by decide

/-- V-ST-5: `XTHL`. -/
theorem test_V_ST_5 :
    let s :=
      put { start with sp := 0x10AD, regs := { start.regs with h := 0x0B, l := 0x3C } }
        [(0x10AD, 0xF0), (0x10AE, 0x0D)]
    let t := ran (s.withFetchWord 8 0xE3)
    t.pc = 0x0101 ∧ t.regs.h = 0x0D ∧ t.regs.l = 0xF0 ∧ t.readByte 0x10AD = 0x3C
      ∧ t.readByte 0x10AE = 0x0B ∧ t.flags = flagsOf 0 0 0 0 0 ∧ t.stall = 4 := by decide

/-- V-ST-6: `XCHG`. -/
theorem test_V_ST_6 :
    let s := { start with regs := { start.regs with d := 0x33, e := 0x55, h := 0x00, l := 0xFF } }
    let t := ran (s.withFetchWord 8 0xEB)
    t.pc = 0x0101 ∧ t.regs.d = 0x00 ∧ t.regs.e = 0xFF ∧ t.regs.h = 0x33 ∧ t.regs.l = 0x55
      ∧ t.flags = flagsOf 0 0 0 0 0 ∧ t.stall = 0 := by decide

/-- V-ST-7: `SPHL`. -/
theorem test_V_ST_7 :
    let s := { start with regs := { start.regs with h := 0x50, l := 0x6C } }
    let t := ran (s.withFetchWord 8 0xF9)
    t.pc = 0x0101 ∧ t.sp = 0x506C ∧ t.flags = flagsOf 0 0 0 0 0 ∧ t.stall = 0 := by decide

/-- V-RC-1: `RLC`. -/
theorem test_V_RC_1 :
    let t := ran (({ start with regs := { start.regs with a := 0xF2 } }).withFetchWord 8 0x07)
    t.pc = 0x0101 ∧ t.regs.a = 0xE5 ∧ t.flags = flagsOf 0 0 0 0 1 ∧ t.stall = 0 := by decide

/-- V-RC-2: `RRC`. -/
theorem test_V_RC_2 :
    let t := ran (({ start with regs := { start.regs with a := 0xF2 } }).withFetchWord 8 0x0F)
    t.pc = 0x0101 ∧ t.regs.a = 0x79 ∧ t.flags = flagsOf 0 0 0 0 0 ∧ t.stall = 0 := by decide

/-- V-RC-3: `RAL`. -/
theorem test_V_RC_3 :
    let t := ran (({ start with regs := { start.regs with a := 0xB5 } }).withFetchWord 8 0x17)
    t.pc = 0x0101 ∧ t.regs.a = 0x6A ∧ t.flags = flagsOf 0 0 0 0 1 ∧ t.stall = 0 := by decide

/-- V-RC-4: `RAR`. -/
theorem test_V_RC_4 :
    let s := { start with flags := flagsOf 0 0 0 0 1, regs := { start.regs with a := 0x6A } }
    let t := ran (s.withFetchWord 8 0x1F)
    t.pc = 0x0101 ∧ t.regs.a = 0xB5 ∧ t.flags = flagsOf 0 0 0 0 0 ∧ t.stall = 0 := by decide

/-- V-RC-5: `CMA`. -/
theorem test_V_RC_5 :
    let s := { start with flags := flagsOf 0 1 0 0 0, regs := { start.regs with a := 0x51 } }
    let t := ran (s.withFetchWord 8 0x2F)
    t.pc = 0x0101 ∧ t.regs.a = 0xAE ∧ t.flags = flagsOf 0 1 0 0 0 ∧ t.stall = 0 := by decide

/-- V-RC-6: `STC`. -/
theorem test_V_RC_6 :
    let t := ran (start.withFetchWord 8 0x37)
    t.pc = 0x0101 ∧ t.flags = flagsOf 0 0 0 0 1 ∧ t.stall = 0 := by decide

/-- V-RC-7: `CMC`. -/
theorem test_V_RC_7 :
    let t := ran (({ start with flags := flagsOf 0 0 0 0 1 }).withFetchWord 8 0x3F)
    t.pc = 0x0101 ∧ t.flags = flagsOf 0 0 0 0 0 ∧ t.stall = 0 := by decide

/-- V-RC-8: `DAA`. -/
theorem test_V_RC_8 :
    let t := ran (({ start with regs := { start.regs with a := 0x9B } }).withFetchWord 8 0x27)
    t.pc = 0x0101 ∧ t.regs.a = 0x01 ∧ t.flags = flagsOf 0 0 1 0 1 ∧ t.stall = 0 := by decide

/-- V-RC-9: `DAA`. -/
theorem test_V_RC_9 :
    let t := ran (({ start with regs := { start.regs with a := 0x9A } }).withFetchWord 8 0x27)
    t.pc = 0x0101 ∧ t.regs.a = 0x00 ∧ t.flags = flagsOf 0 1 1 1 1 ∧ t.stall = 0 := by decide

/-- V-AL-1: `ADD D`. -/
theorem test_V_AL_1 :
    let s := { start with regs := { start.regs with a := 0x6C, d := 0x2E } }
    let t := ran (s.withFetchWord 8 0x82)
    t.pc = 0x0101 ∧ t.regs.a = 0x9A ∧ t.flags = flagsOf 1 0 1 1 0 ∧ t.stall = 0 := by decide

/-- V-AL-2: `ADD B`. -/
theorem test_V_AL_2 :
    let s := { start with regs := { start.regs with a := 0xFF, b := 0x01 } }
    let t := ran (s.withFetchWord 8 0x80)
    t.pc = 0x0101 ∧ t.regs.a = 0x00 ∧ t.flags = flagsOf 0 1 1 1 1 ∧ t.stall = 0 := by decide

/-- V-AL-6: `ADC C`. -/
theorem test_V_AL_6 :
    let s := { start with flags := flagsOf 0 0 0 0 1, regs := { start.regs with a := 0x3D, c := 0x42 } }
    let t := ran (s.withFetchWord 8 0x89)
    t.pc = 0x0101 ∧ t.regs.a = 0x80 ∧ t.flags = flagsOf 1 0 1 0 0 ∧ t.stall = 0 := by decide

/-- V-AL-7: `ACI d8`. -/
theorem test_V_AL_7 :
    let s := { start with flags := flagsOf 0 0 0 0 1, regs := { start.regs with a := 0x00 } }
    let t := ran (s.withFetchWord 16 0xFFCE)
    t.pc = 0x0102 ∧ t.flags = flagsOf 0 1 1 1 1 ∧ t.stall = 1 := by decide

/-- V-AL-8: `SUB A`. -/
theorem test_V_AL_8 :
    let t := ran (({ start with regs := { start.regs with a := 0x3E } }).withFetchWord 8 0x97)
    t.pc = 0x0101 ∧ t.regs.a = 0x00 ∧ t.flags = flagsOf 0 1 1 1 0 ∧ t.stall = 0 := by decide

/-- V-AL-9: `SUB B`. -/
theorem test_V_AL_9 :
    let s := { start with regs := { start.regs with a := 0x02, b := 0x05 } }
    let t := ran (s.withFetchWord 8 0x90)
    t.pc = 0x0101 ∧ t.regs.a = 0xFD ∧ t.flags = flagsOf 1 0 0 0 1 ∧ t.stall = 0 := by decide

/-- V-AL-10: `SBB L`. -/
theorem test_V_AL_10 :
    let s := { start with flags := flagsOf 0 0 0 0 1, regs := { start.regs with a := 0x04, l := 0x02 } }
    let t := ran (s.withFetchWord 8 0x9D)
    t.pc = 0x0101 ∧ t.regs.a = 0x01 ∧ t.flags = flagsOf 0 0 1 0 0 ∧ t.stall = 0 := by decide

/-- V-AL-11: `SBI d8`. -/
theorem test_V_AL_11 :
    let s := { start with flags := flagsOf 0 0 0 0 1, regs := { start.regs with a := 0x00 } }
    let t := ran (s.withFetchWord 16 0x00DE)
    t.pc = 0x0102 ∧ t.regs.a = 0xFF ∧ t.flags = flagsOf 1 0 0 1 1 ∧ t.stall = 1 := by decide

/-- V-AL-12: `ANA C`. -/
theorem test_V_AL_12 :
    let s := { start with regs := { start.regs with a := 0xFC, c := 0x0F } }
    let t := ran (s.withFetchWord 8 0xA1)
    t.pc = 0x0101 ∧ t.regs.a = 0x0C ∧ t.flags = flagsOf 0 0 1 1 0 ∧ t.stall = 0 := by decide

/-- V-AL-13: `ANI d8`. -/
theorem test_V_AL_13 :
    let s := { start with flags := flagsOf 0 0 0 0 1, regs := { start.regs with a := 0x3A } }
    let t := ran (s.withFetchWord 16 0x0FE6)
    t.pc = 0x0102 ∧ t.regs.a = 0x0A ∧ t.flags = flagsOf 0 0 1 1 0 ∧ t.stall = 1 := by decide

/-- V-AL-14: `XRA A`. -/
theorem test_V_AL_14 :
    let s := { start with flags := flagsOf 0 0 1 0 1, regs := { start.regs with a := 0x5C } }
    let t := ran (s.withFetchWord 8 0xAF)
    t.pc = 0x0101 ∧ t.regs.a = 0x00 ∧ t.flags = flagsOf 0 1 0 1 0 ∧ t.stall = 0 := by decide

/-- V-AL-15: `ORA B`. -/
theorem test_V_AL_15 :
    let s := { start with regs := { start.regs with a := 0x33, b := 0x0F } }
    let t := ran (s.withFetchWord 8 0xB0)
    t.pc = 0x0101 ∧ t.regs.a = 0x3F ∧ t.flags = flagsOf 0 0 0 1 0 ∧ t.stall = 0 := by decide

/-- V-AL-16: `CMP E`. -/
theorem test_V_AL_16 :
    let s := { start with regs := { start.regs with a := 0x0A, e := 0x05 } }
    let t := ran (s.withFetchWord 8 0xBB)
    t.pc = 0x0101 ∧ t.flags = flagsOf 0 0 1 1 0 ∧ t.stall = 0 := by decide

/-- V-AL-17: `CMP E`. -/
theorem test_V_AL_17 :
    let s := { start with regs := { start.regs with a := 0x02, e := 0x05 } }
    let t := ran (s.withFetchWord 8 0xBB)
    t.pc = 0x0101 ∧ t.flags = flagsOf 1 0 0 0 1 ∧ t.stall = 0 := by decide

/-- V-AL-18: `CPI d8`. -/
theorem test_V_AL_18 :
    let t := ran (({ start with regs := { start.regs with a := 0x4A } }).withFetchWord 16 0x4AFE)
    t.pc = 0x0102 ∧ t.flags = flagsOf 0 1 1 1 0 ∧ t.stall = 1 := by decide

/-- V-AL-20: `INR A`. -/
theorem test_V_AL_20 :
    let s := { start with flags := flagsOf 0 0 0 0 1, regs := { start.regs with a := 0xFF } }
    let t := ran (s.withFetchWord 8 0x3C)
    t.pc = 0x0101 ∧ t.regs.a = 0x00 ∧ t.flags = flagsOf 0 1 1 1 1 ∧ t.stall = 0 := by decide

/-- V-AL-21: `INR C`. -/
theorem test_V_AL_21 :
    let t := ran (({ start with regs := { start.regs with c := 0x0F } }).withFetchWord 8 0x0C)
    t.pc = 0x0101 ∧ t.regs.c = 0x10 ∧ t.flags = flagsOf 0 0 1 0 0 ∧ t.stall = 0 := by decide

/-- V-AL-22: `DCR B`. -/
theorem test_V_AL_22 :
    let t := ran (({ start with regs := { start.regs with b := 0x00 } }).withFetchWord 8 0x05)
    t.pc = 0x0101 ∧ t.regs.b = 0xFF ∧ t.flags = flagsOf 1 0 0 1 0 ∧ t.stall = 0 := by decide

/-- V-AL-23: `DCR D`. -/
theorem test_V_AL_23 :
    let t := ran (({ start with regs := { start.regs with d := 0x10 } }).withFetchWord 8 0x15)
    t.pc = 0x0101 ∧ t.regs.d = 0x0F ∧ t.flags = flagsOf 0 0 0 1 0 ∧ t.stall = 0 := by decide

/-- V-AL-26: `ORI d8`. -/
theorem test_V_AL_26 :
    let t := ran (({ start with regs := { start.regs with a := 0x01 } }).withFetchWord 16 0x80F6)
    t.pc = 0x0102 ∧ t.regs.a = 0x81 ∧ t.flags = flagsOf 1 0 0 1 0 ∧ t.stall = 1 := by decide

/-- V-AL-27: `XRI d8`. -/
theorem test_V_AL_27 :
    let t := ran (({ start with regs := { start.regs with a := 0x0F } }).withFetchWord 16 0xFFEE)
    t.pc = 0x0102 ∧ t.regs.a = 0xF0 ∧ t.flags = flagsOf 1 0 0 1 0 ∧ t.stall = 1 := by decide

/-- V-AL-28: `SUI d8`. -/
theorem test_V_AL_28 :
    let t := ran (({ start with regs := { start.regs with a := 0x00 } }).withFetchWord 16 0x01D6)
    t.pc = 0x0102 ∧ t.regs.a = 0xFF ∧ t.flags = flagsOf 1 0 0 1 1 ∧ t.stall = 1 := by decide

/-- V-RP-1: `LXI H,d16`. -/
theorem test_V_RP_1 :
    let t := ran (start.withFetchWord 24 0x200021)
    t.pc = 0x0103 ∧ t.regs.h = 0x20 ∧ t.regs.l = 0x00 ∧ t.flags = flagsOf 0 0 0 0 0
      ∧ t.stall = 2 := by decide

/-- V-RP-2: `LXI SP,d16`. -/
theorem test_V_RP_2 :
    let t := ran (start.withFetchWord 24 0x240031)
    t.pc = 0x0103 ∧ t.sp = 0x2400 ∧ t.flags = flagsOf 0 0 0 0 0 ∧ t.stall = 2 := by decide

/-- V-RP-3: `DAD B`. -/
theorem test_V_RP_3 :
    let s := { start with regs := { start.regs with b := 0x33, c := 0x9F, h := 0xA1, l := 0x7B } }
    let t := ran (s.withFetchWord 8 0x09)
    t.pc = 0x0101 ∧ t.regs.h = 0xD5 ∧ t.regs.l = 0x1A ∧ t.flags = flagsOf 0 0 0 0 0
      ∧ t.stall = 2 := by decide

/-- V-RP-4: `DAD D`. -/
theorem test_V_RP_4 :
    let s := { start with regs := { start.regs with d := 0x00, e := 0x01, h := 0xFF, l := 0xFF } }
    let t := ran (s.withFetchWord 8 0x19)
    t.pc = 0x0101 ∧ t.regs.h = 0x00 ∧ t.regs.l = 0x00 ∧ t.flags = flagsOf 0 0 0 0 1
      ∧ t.stall = 2 := by decide

/-- V-RP-7: `INX D`. -/
theorem test_V_RP_7 :
    let s := { start with regs := { start.regs with d := 0x38, e := 0xFF } }
    let t := ran (s.withFetchWord 8 0x13)
    t.pc = 0x0101 ∧ t.regs.d = 0x39 ∧ t.regs.e = 0x00 ∧ t.flags = flagsOf 0 0 0 0 0
      ∧ t.stall = 0 := by decide

/-- V-RP-8: `INX SP`. -/
theorem test_V_RP_8 :
    let t := ran (start.withFetchWord 8 0x33)
    t.pc = 0x0101 ∧ t.sp = 0x0000 ∧ t.flags = flagsOf 0 0 0 0 0 ∧ t.stall = 0 := by decide

/-- V-RP-9: `DCX B`. -/
theorem test_V_RP_9 :
    let s := { start with regs := { start.regs with b := 0x00, c := 0x00 } }
    let t := ran (s.withFetchWord 8 0x0B)
    t.pc = 0x0101 ∧ t.regs.b = 0xFF ∧ t.regs.c = 0xFF ∧ t.flags = flagsOf 0 0 0 0 0
      ∧ t.stall = 0 := by decide

/-- V-LS-1: `MOV B,C`. -/
theorem test_V_LS_1 :
    let t := ran (({ start with regs := { start.regs with c := 0x77 } }).withFetchWord 8 0x41)
    t.pc = 0x0101 ∧ t.regs.b = 0x77 ∧ t.flags = flagsOf 0 0 0 0 0 ∧ t.stall = 0 := by decide

/-- V-LS-2: `MOV A,M`. -/
theorem test_V_LS_2 :
    let s := put { start with regs := { start.regs with h := 0x20, l := 0x00 } } [(0x2000, 0x99)]
    let t := ran (s.withFetchWord 8 0x7E)
    t.pc = 0x0101 ∧ t.regs.a = 0x99 ∧ t.flags = flagsOf 0 0 0 0 0 ∧ t.stall = 1 := by decide

/-- V-LS-5: `MVI A,d8`. -/
theorem test_V_LS_5 :
    let t := ran (start.withFetchWord 16 0xA53E)
    t.pc = 0x0102 ∧ t.regs.a = 0xA5 ∧ t.flags = flagsOf 0 0 0 0 0 ∧ t.stall = 1 := by decide

/-- V-LS-6: `MVI M,d8`. -/
theorem test_V_LS_6 :
    let s := { start with regs := { start.regs with h := 0x20, l := 0x05 } }
    let t := ran (s.withFetchWord 16 0x5A36)
    t.pc = 0x0102 ∧ t.readByte 0x2005 = 0x5A ∧ t.flags = flagsOf 0 0 0 0 0 ∧ t.stall = 2 := by decide

/-- V-LS-7: `STA a16`. -/
theorem test_V_LS_7 :
    let t := ran (({ start with regs := { start.regs with a := 0x77 } }).withFetchWord 24 0x200032)
    t.pc = 0x0103 ∧ t.readByte 0x2000 = 0x77 ∧ t.flags = flagsOf 0 0 0 0 0 ∧ t.stall = 3 := by decide

/-- V-LS-8: `LDA a16`. -/
theorem test_V_LS_8 :
    let t := ran ((put start [(0x2000, 0x77)]).withFetchWord 24 0x20003A)
    t.pc = 0x0103 ∧ t.regs.a = 0x77 ∧ t.flags = flagsOf 0 0 0 0 0 ∧ t.stall = 3 := by decide

/-- V-LS-9: `LHLD a16`. -/
theorem test_V_LS_9 :
    let t := ran ((put start [(0x0000, 0x12), (0xFFFF, 0x34)]).withFetchWord 24 0xFFFF2A)
    t.pc = 0x0103 ∧ t.regs.h = 0x12 ∧ t.regs.l = 0x34 ∧ t.flags = flagsOf 0 0 0 0 0
      ∧ t.stall = 4 := by decide

/-- V-LS-10: `SHLD a16`. -/
theorem test_V_LS_10 :
    let s := { start with regs := { start.regs with h := 0xAE, l := 0x29 } }
    let t := ran (s.withFetchWord 24 0x210022)
    t.pc = 0x0103 ∧ t.readByte 0x2100 = 0x29 ∧ t.readByte 0x2101 = 0xAE
      ∧ t.flags = flagsOf 0 0 0 0 0 ∧ t.stall = 4 := by decide

/-- V-LS-11: `LDAX D`. -/
theorem test_V_LS_11 :
    let s := put { start with regs := { start.regs with d := 0x20, e := 0x80 } } [(0x2080, 0x3C)]
    let t := ran (s.withFetchWord 8 0x1A)
    t.pc = 0x0101 ∧ t.regs.a = 0x3C ∧ t.flags = flagsOf 0 0 0 0 0 ∧ t.stall = 1 := by decide

/-- V-LS-12: `STAX B`. -/
theorem test_V_LS_12 :
    let s := { start with regs := { start.regs with a := 0x55, b := 0x3F, c := 0x16 } }
    let t := ran (s.withFetchWord 8 0x02)
    t.pc = 0x0101 ∧ t.readByte 0x3F16 = 0x55 ∧ t.flags = flagsOf 0 0 0 0 0 ∧ t.stall = 1 := by decide

/-- V-IO-2: `OUT p8`. -/
theorem test_V_IO_2 :
    let t := ran (({ start with regs := { start.regs with a := 0x3C } }).withFetchWord 16 0x03D3)
    t.pc = 0x0102 ∧ t.flags = flagsOf 0 0 0 0 0 ∧ t.portWrites = [(0x03, 0x3C)] ∧ t.stall = 2 := by decide

/-- V-UN-1: `(unrecognized)`. -/
theorem test_V_UN_1 :
    let t := ran (start.withFetchWord 8 0x08)
    t.pc = 0x0101 ∧ t.flags = flagsOf 0 0 0 0 0 ∧ t.diags = [⟨0x08, 0x0100⟩] ∧ t.stall = 0 := by decide

/-- V-UN-2: `(unrecognized)`. -/
theorem test_V_UN_2 :
    let t := ran (start.withFetchWord 24 0x2000CB)
    t.pc = 0x0101 ∧ t.flags = flagsOf 0 0 0 0 0 ∧ t.diags = [⟨0xCB, 0x0100⟩] ∧ t.stall = 0 := by decide

/-- R260: A is the environment's answer, whatever it is. -/
theorem test_in_reads_the_port :
    let t := ran (start.withFetchWord 16 0x01DB)
    t.regs.a = Config.ioIn 0 0x01 ∧ t.io = [.read 0x01 (Config.ioIn 0 0x01)] ∧ t.pc = 0x0102 := ⟨rfl, rfl, rfl⟩

/-- R119: under `unmodelled` ADC draws its carry-in and writes no flag. -/
theorem test_unmodelled_adc :
    let t := ran (startUnmodelled.withFetchWord 8 0x88)
    t.flags = startUnmodelled.flags ∧ t.draws = 1
      ∧ t.regs.a = (add8 0 0 (Config.drawBit 0)).value := ⟨rfl, rfl, rfl⟩

/-- R119: under `unmodelled` a condition is a draw. -/
theorem test_unmodelled_jz :
    ∃ t, exec (.jz 0x1234) startUnmodelled = .next t ∧ t.draws = 1
      ∧ t.pc = if Config.drawBit 0 then 0x1234 else 0x0103 :=
  ⟨_, rfl, by rw [State.jumpIf_eq]; rfl, by rw [State.jumpIf_eq]; rfl⟩

/-! ## Witnesses: states and operands that meet the hypotheses of each statement -/

/-- `EncodedAs`, used throughout: a well-formed instruction and bytes it prefixes, for each length, the
ones that need `DECODE_EXTRA` and an unrecognized byte among them. -/
theorem witness_EncodedAs :
    Instr.wf false .nop = true ∧ encode .nop <+: [0x00, 0xFF, 0xFF]
      ∧ Instr.wf false (.mvi .mem 0xFF) = true ∧ encode (.mvi .mem 0xFF) <+: [0x36, 0xFF, 0x00]
      ∧ Instr.wf false (.jmp 0xFFFF) = true ∧ encode (.jmp 0xFFFF) <+: [0xC3, 0xFF, 0xFF]
      ∧ Instr.wf true .daa = true ∧ encode .daa <+: [0x27, 0x00, 0x00]
      ∧ Instr.wf true .sphl = true ∧ encode .sphl <+: [0xF9, 0x00, 0x00]
      ∧ Instr.wf true (.inp 0xFF) = true ∧ encode (.inp 0xFF) <+: [0xDB, 0xFF, 0x00]
      ∧ Instr.wf true (.out 0x00) = true ∧ encode (.out 0x00) <+: [0xD3, 0x00, 0x00]
      ∧ Instr.wf true (.unrecognized 0xFD) = true ∧ encode (.unrecognized 0xFD) <+: [0xFD, 0x00, 0x00]
      ∧ Instr.wf false (.unrecognized 0x27) = true ∧ encode (.unrecognized 0x27) <+: [0x27, 0x00, 0x00] := by
  decide

theorem witness_DecodeOfEncodeIsTheInstruction :
    Instr.wf false (.lxi .sp 0xFFFF) = true ∧ encode (.lxi .sp 0xFFFF) <+: [0x31, 0xFF, 0xFF]
      ∧ Instr.wf false (.cmp (.reg .a)) = true ∧ encode (.cmp (.reg .a)) <+: [0xBF, 0x00, 0x00] := by decide

theorem witness_MaskedFamiliesAreDisjoint :
    familyTable.reverse.Perm familyTable
      ∧ (∃ r ∈ exactTable, ∃ f ∈ familyTable, f.matches r.opcode = true ∧ r.opcode = 0x76)
      ∧ (∃ r ∈ exactTable, ∃ f ∈ familyTable, f.matches r.opcode = true ∧ r.opcode = 0xBE) :=
  ⟨List.reverse_perm _, by decide, by decide⟩

theorem witness_ExactTableTakesPrecedence :
    (∃ r ∈ exactTable, r.opcode = 0x00 ∧ r.matches false r.opcode = true)
      ∧ (∃ r ∈ exactTable, r.opcode = 0xDB ∧ r.matches true r.opcode = true)
      ∧ (∃ f ∈ familyTable, f.family = .cmp ∧ f.matches 0xBE = true) := by decide

theorem witness_UnrecognizedBytesAreTwelveOrSixteen :
    (decode true 0x08 0 0).stage = .unmatched ∧ (decode true 0xFD 0 0).stage = .unmatched
      ∧ (decode false 0x27 0 0).stage = .unmatched ∧ (decode false 0xF9 0 0).stage = .unmatched
      ∧ (0x27 : Byte) ∈ ([0x27, 0xD3, 0xDB, 0xF9] : List Byte)
      ∧ (0x00 : Byte) ∉ ([0x27, 0xD3, 0xDB, 0xF9] : List Byte) := by decide

theorem witness_LoaderPlacesTheBuffer :
    Memory.wf [(0x0000, 0x01), (0xFFFF, 0x02)]
      ∧ (State.reset.load [0xC3, 0x34]).readByte 0x0001 = 0x34
      ∧ (State.reset.load [0xC3, 0x34]).readByte 0x0002 = Config.unlistedByte := by decide

theorem witness_InvariantHoldsAtReset : Memory.wf [(0x0000, 0xC3), (0xFFFF, 0x12)] := by decide

/-- The machine at 0x0100 after its first instruction, a NOP. -/
def afterNop : State := ran start

/-- A state of a run with a non-empty trace, which steps. -/
theorem witness_EveryStepKeepsTheInvariant :
    afterNop.Inv ∧ afterNop.trace.length = 1 ∧ step afterNop = .next (ran afterNop) :=
  ⟨{ memory := by decide, diags := by decide, records := by decide, fetches := by decide,
     ended := by decide, stalls := by decide }, by decide, rfl⟩

theorem witness_StepRunsTheDecodedInstruction :
    start.halted = false ∧ start.stall = 0
      ∧ (decode start.params.decodeExtra (start.readByte start.pc) (start.readByte (start.pc + 1))
          (start.readByte (start.pc + 2))).instr = .nop
      ∧ exec .nop start = .next (start.advance 1) := ⟨rfl, rfl, by decide, rfl⟩

/-- A conditional instruction at the top of memory, its operand bytes wrapping. -/
theorem witness_StepRunsTheDecodedInstruction_wrapping :
    let s := ({ start with pc := 0xFFFF }).withFetchWord 24 0x2000CA
    (decode s.params.decodeExtra (s.readByte s.pc) (s.readByte (s.pc + 1)) (s.readByte (s.pc + 2))).instr
        = .jz 0x2000
      ∧ s.readByte 0x0001 = 0x20 ∧ (ran s).pc = 0x0002 ∧ (ran s).stall = 2 := by decide

theorem witness_StallStepOnlyCountsDown :
    (let s := { start with stall := 1 }
     s.halted = false ∧ 0 < s.stall ∧ (ran s).stall = 0 ∧ (ran s).pc = 0x0100)
      ∧ ({ start with halted := true } : State).halted = true := by decide

theorem witness_NoInstructionFaults : start.halted = false := rfl

theorem witness_StallTableIsTheDefaultOrAnyOther :
    Params.default.stallRows = [] ∧ start.halted = false ∧ start.stall = 0 ∧ step start = .next afterNop
      ∧ stallOf { Params.default with stallRows := [{ form := .ccc, taken := true, stall := 9 }] } .ccc true = 9
      ∧ stallOf { Params.default with stallRows := [{ form := .ccc, taken := true, stall := 9 }] } .ccc false = 2 :=
  ⟨rfl, rfl, rfl, rfl, by decide, by decide⟩

/-- Two states that differ in stall and table only, one of which runs two steps; a state with a stall; an
instruction step that leaves one pending. -/
theorem witness_StallHasNoArchitecturalEffect :
    (let s := { start with stall := 3 }
     let u := { start with params := { Params.default with stallRows := [{ form := .nop, taken := false, stall := 7 }] } }
     s.withoutTiming = u.withoutTiming ∧ s.stall ≠ u.stall
       ∧ Host.Core.run Sys2Proof.core 2 s = .next { start with stall := 1 } ∧ s.halted = false)
      ∧ (let s := start.withFetchWord 24 0x1234C3
         s.halted = false ∧ s.stall = 0 ∧ step s = .next (ran s) ∧ (ran s).halted = false ∧ (ran s).stall = 2) :=
  ⟨⟨rfl, by decide, rfl, rfl⟩, rfl, rfl, rfl, by decide, by decide⟩

theorem witness_UnmodelledFlagsAreNoState :
    startUnmodelled.params.flagModel = .unmodelled
      ∧ step startUnmodelled = .next (ran startUnmodelled)
      ∧ startUnmodelled.flags ≠ flagsOf 1 1 1 1 1 := ⟨rfl, rfl, by decide⟩

/-- A word for each clause, the first and the last form of each list, and both outcomes of a condition. -/
theorem witness_TraceRecordOfAnInstructionStep :
    start.halted = false ∧ start.stall = 0
      ∧ (start.withFetchWord 8 0x08).fetched.form = .unrecognized ∧ start.fetched.form ≠ .unrecognized
      ∧ (start.withFetchWord 8 0x86).fetched.form = .addM ∧ (start.withFetchWord 16 0xFF36).fetched.form = .mviM
      ∧ (start.withFetchWord 8 0x0A).fetched.instr = .ldax .bc
      ∧ (start.withFetchWord 8 0x12).fetched.instr = .stax .de
      ∧ (start.withFetchWord 24 0xFFFF3A).fetched.instr = .lda 0xFFFF
      ∧ (start.withFetchWord 24 0x000022).fetched.instr = .shld 0x0000
      ∧ (start.withFetchWord 8 0xC1).fetched.form = .popRp ∧ (start.withFetchWord 8 0xC9).fetched.form = .ret
      ∧ (start.withFetchWord 8 0xC0).fetched.form = .rcc
      ∧ ((ran (start.withFetchWord 8 0xC0)).trace.map TraceRecord.taken) = [some true]
      ∧ (start.withFetchWord 8 0xC5).fetched.form = .pushRp ∧ (start.withFetchWord 8 0xFF).fetched.form = .rst
      ∧ (start.withFetchWord 24 0x2000C4).fetched.form = .ccc
      ∧ ((ran (start.withFetchWord 24 0x2000C4)).trace.map TraceRecord.ea) = [some 0xFFFD]
      ∧ ((ran (start.withFetchWord 24 0x2000CC)).trace.map TraceRecord.ea) = [none]
      ∧ ((ran (start.withFetchWord 24 0x2000CC)).trace.map TraceRecord.taken) = [some false]
      ∧ (start.withFetchWord 24 0x2000C3).fetched.form = .jmp
      ∧ ((ran (start.withFetchWord 24 0x2000C3)).trace.map TraceRecord.ea) = [none] := by decide

theorem witness_AccessWidthsPerInstruction :
    Instr.wf true (.mov (.reg .h) .mem) = true ∧ (Instr.mov (.reg .h) .mem).form = .movRM
      ∧ (Instr.cmp .mem).form = .cmpM ∧ (Instr.mov .mem (.reg .l)).form = .movMR ∧ (Instr.mvi .mem 0).form = .mviM
      ∧ (Instr.inr .mem).form = .inrM ∧ (Instr.dcr .mem).form = .dcrM ∧ (Instr.pop .psw).form = .popPsw
      ∧ Instr.rnz.form = .rcc ∧ Instr.rnz.cond.map (conditionSeen start) = some true
      ∧ (Instr.rst 7).form = .rst ∧ (Instr.cz 0).form = .ccc
      ∧ (Instr.cz 0).cond.map (conditionSeen start) = some false ∧ Instr.xthl.form = .xthl
      ∧ Instr.nop.form = .nop ∧ Instr.wf true .nop = true
      ∧ step start = .next afterNop ∧ start.halted = false ∧ start.stall = 0 := by
  refine ⟨?_, ?_, ?_, ?_, ?_, ?_, ?_, ?_, ?_, ?_, ?_, ?_, ?_, ?_, ?_, ?_, rfl, rfl, rfl⟩ <;> decide

theorem witness_MemoryIsTheReplayOfItsStores :
    exec (.sta 0xFFFF) start = .next ((start.writeByte 0xFFFF start.regs.a).advance 3)
      ∧ start.loadAt 0xFFFF ∈ start.dataAccesses (.lda 0xFFFF) ∧ (start.loadAt 0xFFFF).kind = .load :=
  ⟨rfl, by decide, rfl⟩

/-- PUSH B moves SP, at the SP that wraps; RNZ and CNZ do when taken. -/
theorem witness_OnlyStackFormsWriteSp :
    (∃ t, exec (.push .bc) { start with sp := 0x0001 } = .next t ∧ t.sp = 0xFFFF)
      ∧ (∃ t, exec .rnz start = .next t ∧ t.sp = 0x0001) ∧ (∃ t, exec (.cnz 0) start = .next t ∧ t.sp = 0xFFFD)
      ∧ (∃ t, exec (.lxi .sp 0) start = .next t ∧ t.sp = 0) ∧ (∃ t, exec (.inx .sp) start = .next t ∧ t.sp = 0)
      ∧ (∃ t, exec (.dcx .sp) start = .next t ∧ t.sp = 0xFFFE) :=
  ⟨⟨_, rfl, by decide⟩, ⟨_, rfl, by decide⟩, ⟨_, rfl, by decide⟩, ⟨_, rfl, by decide⟩, ⟨_, rfl, by decide⟩,
    ⟨_, rfl, by decide⟩⟩

theorem witness_ControlStateHasFewWriters :
    (∃ t, exec .ei start = .next t ∧ t.inte ≠ start.inte)
      ∧ (∃ t, exec .hlt start = .next t ∧ t.halted ≠ start.halted)
      ∧ (∃ t, exec (.out 0xFF) start = .next t ∧ t.io ≠ start.io)
      ∧ (∃ t, exec (.unrecognized 0x08) start = .next t ∧ t.diags ≠ start.diags)
      ∧ (∃ t, exec (.inp 0xFF) start = .next t ∧ t.draws ≠ start.draws)
      ∧ (∃ t, exec .cmc startUnmodelled = .next t ∧ t.draws ≠ startUnmodelled.draws) :=
  ⟨⟨_, rfl, by decide⟩, ⟨_, rfl, by decide⟩, ⟨_, rfl, by decide⟩, ⟨_, rfl, by decide⟩,
    ⟨_, rfl, by simp [start, State.reset, State.powerOn]⟩,
    ⟨_, rfl, by simp [startUnmodelled, start, State.reset, State.powerOn, State.flagsRead]⟩⟩

theorem witness_FlagSummary :
    start.params.flagModel = .intel8080 ∧ (∃ t, exec .stc start = .next t ∧ t.flags.cy = true)
      ∧ Instr.stc.form = .stc ∧ (Instr.ana .mem).form = .anaM ∧ (Instr.xri 0xFF).form = .xri
      ∧ (Instr.dad .sp).form = .dad ∧ Instr.nop.form = .nop :=
  ⟨rfl, ⟨_, rfl, by decide⟩, rfl, rfl, rfl, rfl, rfl⟩

theorem witness_RegistersHaveTheListedWriters :
    (∃ t, exec (.adi 0x01) start = .next t ∧ t.regs.a ≠ start.regs.a)
      ∧ (∃ t, exec (.mvi (.reg .e) 0xFF) start = .next t ∧ t.regs.get .e ≠ start.regs.get .e)
      ∧ (∃ t, exec (.dcx .hl) start = .next t ∧ t.regs.get .l ≠ start.regs.get .l) :=
  ⟨⟨_, rfl, by decide⟩, ⟨_, rfl, by decide⟩, ⟨_, rfl, by decide⟩⟩

theorem witness_MemoryReadsBackWhatWasWritten :
    start.mem.wf ∧ (0x8000 : Word) ≠ 0xFFFF ∧ (0x8000 : Word) ≠ 0xFFFF + 1
      ∧ ((start.writeWord 0xFFFF 0x1234).readByte 0x0000 = 0x12) := by decide

/-- STA over the byte after itself, at the pc whose operand bytes wrap. -/
theorem witness_StoreIsSeenByTheNextFetch :
    let s := ({ start with pc := 0xFFFE }).withFetchWord 24 0x000132
    s.halted = false ∧ s.stall = 0
      ∧ (decode s.params.decodeExtra (s.readByte s.pc) (s.readByte (s.pc + 1)) (s.readByte (s.pc + 2))).instr
        = .sta (s.pc + 3)
      ∧ step { ran s with stall := 0 } = .next (ran { ran s with stall := 0 }) :=
  ⟨by decide, by decide, by decide, rfl⟩

/-- SHLD at 0xFFFB over the JMP at 0xFFFE: its high byte goes to 0xFFFF, the second byte of the JMP. -/
theorem witness_StoreIsSeenByTheNextFetch_operand :
    let s := put { start with pc := 0xFFFB, regs := { Regs.zero with h := 0x34, l := 0xC3 } }
      [(0xFFFB, 0x22), (0xFFFC, 0xFE), (0xFFFD, 0xFF), (0xFFFE, 0x3A), (0x0000, 0x12)]
    s.halted = false ∧ s.stall = 0
      ∧ (s.dataAccesses s.fetched.instr).map (fun x => (x.kind, x.addr)) = [(.store, 0xFFFE), (.store, 0xFFFF)]
      ∧ (ran s).pc = 0xFFFE ∧ (1 : Nat) < (ran s).fetched.length ∧ (0xFFFF : Word) = (ran s).pc + BitVec.ofNat 16 1
      ∧ (ran { ran s with stall := 0 }).pc = 0x1234 := by decide

theorem witness_PopUndoesPush :
    (∃ t, exec (.push .bc) { start with sp := 0x0001 } = .next t ∧ t.readByte 0xFFFF = start.regs.c)
      ∧ (∃ t, exec (.push .psw) start = .next t ∧ t.readByte 0xFFFD = 0x02)
      ∧ start.params.flagModel = .intel8080 :=
  ⟨⟨_, rfl, by decide⟩, ⟨_, rfl, by decide⟩, rfl⟩

theorem witness_LoadUndoesStore :
    (∃ t, exec (.sta 0xFFFF) start = .next t) ∧ (∃ t, exec (.shld 0xFFFF) start = .next t)
      ∧ (∃ t, exec (.stax .de) start = .next t) ∧ (∃ t, exec (.mov .mem (.reg .h)) start = .next t)
      ∧ (∃ t, exec (.mov .mem (.reg .a)) start = .next t) ∧ Reg.a ≠ Reg.h ∧ Reg.a ≠ Reg.l :=
  ⟨⟨_, rfl⟩, ⟨_, rfl⟩, ⟨_, rfl⟩, ⟨_, rfl⟩, ⟨_, rfl⟩, by decide, by decide⟩

theorem witness_NopEiDiWriteAtMostInte :
    (Instr.nop, start.inte) ∈ [(Instr.nop, start.inte), (.ei, true), (.di, false)]
      ∧ (Instr.di, false) ∈ [(Instr.nop, start.inte), (.ei, true), (.di, false)] := by decide

/-- Both outcomes of a condition, and the target 0xFFFF. -/
theorem witness_ConditionalJumps :
    (0xFFFF : Word) = cat16 0xFF 0xFF ∧ conditionSeen start .nz = true ∧ conditionSeen start .m = false
      ∧ (∀ i cc, (i, cc) = (Instr.jnz 0xFFFF, Cond.nz) ∨ (i, cc) = (Instr.jm 0xFFFF, Cond.m) →
        (i, cc) ∈ [(Instr.jnz 0xFFFF, Cond.nz), (.jz 0xFFFF, .z), (.jnc 0xFFFF, .nc), (.jc 0xFFFF, .c),
          (.jpo 0xFFFF, .po), (.jpe 0xFFFF, .pe), (.jp 0xFFFF, .p), (.jm 0xFFFF, .m)]) :=
  ⟨by decide, by decide, by decide, by rintro i cc (h | h) <;> simp [h]⟩

theorem witness_CallAndRestartPushTheReturnAddress :
    (Instr.call 0x0000 = .call 0x0000 ∧ start.pc + 3 = 0x0103)
      ∧ (∃ n : BitVec 3, Instr.rst 7 = .rst n ∧ (0x0038 : Word).toNat = n.toNat * 8 ∧ start.pc + 1 = 0x0101) :=
  ⟨⟨rfl, rfl⟩, 7, rfl, rfl, rfl⟩

theorem witness_ConditionalCalls :
    (0x0000 : Word) = cat16 0x00 0x00 ∧ conditionSeen start .p = true ∧ conditionSeen start .m = false
      ∧ (∀ i cc, (i, cc) = (Instr.cnz 0x0000, Cond.nz) ∨ (i, cc) = (Instr.cm 0x0000, Cond.m) →
        (i, cc) ∈ [(Instr.cnz 0x0000, Cond.nz), (.cz 0x0000, .z), (.cnc 0x0000, .nc), (.cc 0x0000, .c),
          (.cpo 0x0000, .po), (.cpe 0x0000, .pe), (.cp 0x0000, .p), (.cm 0x0000, .m)]) :=
  ⟨by decide, by decide, by decide, by rintro i cc (h | h) <;> simp [h]⟩

theorem witness_Returns :
    conditionSeen start .po = true ∧ conditionSeen start .pe = false
      ∧ (Instr.rm, Cond.m) ∈ [(Instr.rnz, Cond.nz), (.rz, .z), (.rnc, .nc), (.rc, .c), (.rpo, .po), (.rpe, .pe),
          (.rp, .p), (.rm, .m)] := by decide

theorem witness_PushAndPop :
    (StackPair.hl, start.regs.h, start.regs.l) ∈ [(StackPair.bc, start.regs.b, start.regs.c),
        (.de, start.regs.d, start.regs.e), (.hl, start.regs.h, start.regs.l)]
      ∧ (StackPair.hl, Reg.h, Reg.l) ∈ [(StackPair.bc, Reg.b, Reg.c), (.de, .d, .e), (.hl, .h, .l)] := by decide

/-- Both flag models, of which every statement with `FlagsBecome` or `DrawsFlags` has a clause. -/
theorem witness_FlagModels :
    start.params.flagModel = .intel8080 ∧ startUnmodelled.params.flagModel = .unmodelled := ⟨rfl, rfl⟩

theorem witness_RotatesMoveEveryBit :
    (Instr.rlc, start.regs.a.getLsbD 7, 0)
        ∈ [(Instr.rlc, start.regs.a.getLsbD 7, 0), (.ral, carrySeen start, 1)]
      ∧ (Instr.rar, carrySeen start, 1)
        ∈ [(Instr.rrc, start.regs.a.getLsbD 0, 0), (.rar, carrySeen start, 1)] := by
  decide

/-- DAA's premises: no correction, both corrections, and the draws of the other flag model. -/
theorem witness_DecimalAdjust :
    (let s := { start with regs := { start.regs with a := 0x99 } }
     s.params.flagModel = .intel8080 ∧ s.flags.cy = false ∧ s.flags.ac = false
       ∧ 0 = (if 9 < s.regs.a.toNat % 16 ∨ s.flags.ac = true then 6 else 0)
       ∧ 0 = (if 0x99 < s.regs.a.toNat ∨ s.flags.cy = true then 0x60 else 0))
      ∧ (let s := { start with regs := { start.regs with a := 0x9A } }
         6 = (if 9 < s.regs.a.toNat % 16 ∨ s.flags.ac = true then 6 else 0)
           ∧ 0x60 = (if 0x99 < s.regs.a.toNat ∨ s.flags.cy = true then 0x60 else 0))
      ∧ (∃ cy ac, startUnmodelled.params.flagModel = .unmodelled
          ∧ cy = Config.drawBit startUnmodelled.draws ∧ ac = Config.drawBit (startUnmodelled.draws + 1)) :=
  ⟨by decide, by decide, _, _, rfl, rfl, rfl⟩

theorem witness_ArithmeticForms :
    (Instr.aci 0xFF, (0xFF : Byte), carrySeen start, (2 : Word), 1)
        ∈ [(Instr.add .mem, operandSeen start .mem, false, 1, 0),
          (.adc .mem, operandSeen start .mem, carrySeen start, 1, 1), (.adi 0xFF, 0xFF, false, 2, 0),
          (.aci 0xFF, 0xFF, carrySeen start, 2, 1)]
      ∧ (Instr.sbb .mem, operandSeen start .mem, carrySeen start, (1 : Word), 1)
        ∈ [(Instr.sub .mem, operandSeen start .mem, false, 1, 0),
          (.sbb .mem, operandSeen start .mem, carrySeen start, 1, 1), (.sui 0xFF, 0xFF, false, 2, 0),
          (.sbi 0xFF, 0xFF, carrySeen start, 2, 1)] := by decide

/-- The difference a compare discards: equal, and a borrow. -/
theorem witness_CompareFormsSetFlagsOnly :
    IsDifference 0x00 start.regs.a 0x00 false ∧ IsDifference 0xFF start.regs.a 0x01 false
      ∧ (Instr.cpi 0x01, (0x01 : Byte), (2 : Word))
        ∈ [(Instr.cmp .mem, operandSeen start .mem, (1 : Word)), (.cpi 0x01, 0x01, 2)] := by
  refine ⟨?_, ?_, ?_⟩ <;> first | decide | rfl

theorem witness_LogicFormsIntoA :
    (Instr.ana .mem, operandSeen start .mem, (1 : Word), and,
        start.regs.a.getLsbD 3 || (operandSeen start .mem).getLsbD 3)
      ∈ ([(Instr.ana .mem, operandSeen start .mem, 1, and,
            start.regs.a.getLsbD 3 || (operandSeen start .mem).getLsbD 3),
          (.ani 0xFF, 0xFF, 2, and, start.regs.a.getLsbD 3 || (0xFF : Byte).getLsbD 3),
          (.xra .mem, operandSeen start .mem, 1, xor, false), (.xri 0xFF, 0xFF, 2, xor, false),
          (.ora .mem, operandSeen start .mem, 1, or, false), (.ori 0xFF, 0xFF, 2, or, false)] :
        List (Instr × Byte × Word × (Bool → Bool → Bool) × Bool)) := List.mem_cons_self

theorem witness_PairForms : Pair.bc ≠ Pair.sp ∧ Pair.hl ≠ Pair.sp := by decide

theorem witness_DataTransferForms :
    (Instr.mov (.reg .h) .mem, operandSeen start .mem, (1 : Word))
        ∈ [(Instr.mov (.reg .h) .mem, operandSeen start .mem, 1), (.mvi (.reg .h) 0xFF, 0xFF, 2)]
      ∧ (Instr.mvi .mem 0xFF, (0xFF : Byte), (2 : Word))
        ∈ [(Instr.mov .mem (.reg .h), start.regs.h, (1 : Word)), (.mvi .mem 0xFF, 0xFF, 2)]
      ∧ (Instr.lda 0xFFFF, (0xFFFF : Word), (3 : Word))
        ∈ [(Instr.lda 0xFFFF, (0xFFFF : Word), (3 : Word)), (.ldax .bc, indexSeen start .bc, 1)]
      ∧ (Instr.stax .de, indexSeen start .de, (1 : Word))
        ∈ [(Instr.sta 0xFFFF, (0xFFFF : Word), (3 : Word)), (.stax .de, indexSeen start .de, 1)] := by
  decide

end Sys2Proof.Tests
end

section
/-! SUPPORT. What the shared operations of the instruction rules leave unchanged. -/

namespace Sys2Proof.Machine

/-! ## The control part of the state -/

/-- The fields `KeepsControl` speaks of, together, so that an operation that writes none of them has one
lemma. -/
def State.control (s : State) :
    Bool × Bool × Nat × Params × List TraceRecord × List Diagnostic × List IoEvent × List Access :=
  (s.inte, s.halted, s.stall, s.params, s.trace, s.diags, s.io, s.accesses)

theorem keepsControl_iff (s t : State) : KeepsControl s t ↔ t.control = s.control := by
  simp [KeepsControl, State.control]

section
variable (s : State)

@[simp] theorem State.setReg_control (r : Reg) (v : Byte) : (s.setReg r v).control = s.control := rfl
@[simp] theorem State.setSp_control (w : Word) : (s.setSp w).control = s.control := rfl
@[simp] theorem State.advance_control (n : Word) : (s.advance n).control = s.control := rfl
@[simp] theorem State.jump_control (a : Word) : (s.jump a).control = s.control := rfl
@[simp] theorem State.writeByte_control (a : Word) (v : Byte) : (s.writeByte a v).control = s.control := rfl
@[simp] theorem State.writeWord_control (a w : Word) : (s.writeWord a w).control = s.control := rfl
@[simp] theorem State.push16_control (w : Word) : (s.push16 w).control = s.control := rfl
@[simp] theorem State.dropTop_control : s.dropTop.control = s.control := rfl
@[simp] theorem State.drawn_control (n : Nat) : (s.drawn n).control = s.control := rfl
@[simp] theorem State.flagsRead_control (n : Nat) : (s.flagsRead n).control = s.control := rfl
@[simp] theorem State.setFlags_control (f : Flags) : (s.setFlags f).control = s.control := rfl
@[simp] theorem State.setCarry_control (v : Bool) : (s.setCarry v).control = s.control := rfl
@[simp] theorem State.setPair_control (p : Pair) (w : Word) : (s.setPair p w).control = s.control := by
  cases p <;> rfl
@[simp] theorem State.setStackPair_control (p : StackPair) (w : Word) :
    (s.setStackPair p w).control = s.control := by cases p <;> rfl
@[simp] theorem State.stackPairRead_control (p : StackPair) : (s.stackPairRead p).control = s.control := by
  cases p <;> rfl
@[simp] theorem State.setOperand_control (d : Operand) (v : Byte) : (s.setOperand d v).control = s.control := by
  cases d <;> rfl

/-! ## The results of the rules that share a shape -/

/-! `accumulate`, `compared`, `rotated`: registers and flags only -/

@[simp] theorem State.accumulate_control (r : AluResult) (n : Word) :
    (s.accumulate r n).control = s.control := rfl
@[simp] theorem State.accumulate_sp (r : AluResult) (n : Word) : (s.accumulate r n).sp = s.sp := rfl
@[simp] theorem State.accumulate_mem (r : AluResult) (n : Word) : (s.accumulate r n).mem = s.mem := rfl
@[simp] theorem State.accumulate_draws (r : AluResult) (n : Word) : (s.accumulate r n).draws = s.draws := rfl

@[simp] theorem State.compared_control (r : AluResult) (n : Word) : (s.compared r n).control = s.control := rfl
@[simp] theorem State.compared_sp (r : AluResult) (n : Word) : (s.compared r n).sp = s.sp := rfl
@[simp] theorem State.compared_mem (r : AluResult) (n : Word) : (s.compared r n).mem = s.mem := rfl
@[simp] theorem State.compared_draws (r : AluResult) (n : Word) : (s.compared r n).draws = s.draws := rfl

@[simp] theorem State.rotated_control (r : RotateResult) : (s.rotated r).control = s.control := rfl
@[simp] theorem State.rotated_sp (r : RotateResult) : (s.rotated r).sp = s.sp := rfl
@[simp] theorem State.rotated_mem (r : RotateResult) : (s.rotated r).mem = s.mem := rfl
@[simp] theorem State.rotated_draws (r : RotateResult) : (s.rotated r).draws = s.draws := rfl

/-! `updated`: an operand and flags -/

@[simp] theorem State.updated_control (d : Operand) (r : AluResult) : (s.updated d r).control = s.control := by
  simp [State.updated]
@[simp] theorem State.updated_sp (d : Operand) (r : AluResult) : (s.updated d r).sp = s.sp := by
  simp [State.updated]
@[simp] theorem State.updated_draws (d : Operand) (r : AluResult) : (s.updated d r).draws = s.draws := by
  simp [State.updated]

/-! Jumps, calls and returns -/

@[simp] theorem State.jumpIf_control (cc : Cond) (target : Word) : (s.jumpIf cc target).control = s.control := by
  simp [State.jumpIf_eq]
@[simp] theorem State.jumpIf_sp (cc : Cond) (target : Word) : (s.jumpIf cc target).sp = s.sp := by
  simp [State.jumpIf_eq]
@[simp] theorem State.jumpIf_mem (cc : Cond) (target : Word) : (s.jumpIf cc target).mem = s.mem := by
  simp [State.jumpIf_eq]
@[simp] theorem State.jumpIf_draws (cc : Cond) (target : Word) :
    (s.jumpIf cc target).draws = (s.flagsRead 1).draws := by simp [State.jumpIf_eq]

@[simp] theorem State.callTo_control (target : Word) : (s.callTo target).control = s.control := rfl
@[simp] theorem State.callTo_draws (target : Word) : (s.callTo target).draws = s.draws := rfl

@[simp] theorem State.callIf_control (cc : Cond) (target : Word) : (s.callIf cc target).control = s.control := by
  unfold State.callIf
  split <;> rfl
@[simp] theorem State.callIf_draws (cc : Cond) (target : Word) :
    (s.callIf cc target).draws = (s.flagsRead 1).draws := by
  unfold State.callIf
  split <;> rfl

@[simp] theorem State.returnNow_control : s.returnNow.control = s.control := rfl
@[simp] theorem State.returnNow_mem : s.returnNow.mem = s.mem := rfl
@[simp] theorem State.returnNow_draws : s.returnNow.draws = s.draws := rfl

@[simp] theorem State.returnIf_control (cc : Cond) : (s.returnIf cc).control = s.control := by
  unfold State.returnIf
  split <;> rfl
@[simp] theorem State.returnIf_mem (cc : Cond) : (s.returnIf cc).mem = s.mem := by
  unfold State.returnIf
  split <;> rfl
@[simp] theorem State.returnIf_draws (cc : Cond) : (s.returnIf cc).draws = (s.flagsRead 1).draws := by
  unfold State.returnIf
  split <;> rfl

@[simp] theorem State.stackPairRead_mem (p : StackPair) : (s.stackPairRead p).mem = s.mem := by
  cases p <;> rfl

end

theorem State.updated_wf (s : State) (d : Operand) (r : AluResult) (h : s.mem.wf) : (s.updated d r).mem.wf :=
  State.setOperand_wf s d r.value h

theorem State.callTo_wf (s : State) (target : Word) (h : s.mem.wf) : (s.callTo target).mem.wf :=
  State.push16_wf s _ h

theorem State.callIf_wf (s : State) (cc : Cond) (target : Word) (h : s.mem.wf) : (s.callIf cc target).mem.wf := by
  unfold State.callIf
  split
  · exact State.callTo_wf (s.flagsRead 1) target h
  · exact h

/-! ## What an instruction can do to the control part -/

/-- Everything an instruction can do to the fields of `KeepsControl` (10_state.md section 8). -/
theorem exec_control_cases {i : Instr} {s t : State} (h : exec i s = .next t) :
    KeepsControl s t
      ∨ ((i = .ei ∨ i = .di) ∧ ∃ v, KeepsControl (s.setInte v) t)
      ∨ (i = .hlt ∧ KeepsControl s.halt t)
      ∨ (i.form ∈ ([.inp, .out] : List Form) ∧ ∃ e, KeepsControl (s.emitIo e) t)
      ∨ (∃ op, i = .unrecognized op ∧ KeepsControl (s.report op) t) := by
  simp only [keepsControl_iff]
  cases i
  case ei => cases h; exact .inr (.inl ⟨.inl rfl, true, rfl⟩)
  case di => cases h; exact .inr (.inl ⟨.inr rfl, false, rfl⟩)
  case hlt => cases h; exact .inr (.inr (.inl ⟨rfl, rfl⟩))
  case inp port => cases h; exact .inr (.inr (.inr (.inl ⟨by simp [Instr.form], _, rfl⟩)))
  case out port => cases h; exact .inr (.inr (.inr (.inl ⟨by simp [Instr.form], _, rfl⟩)))
  case unrecognized op => cases h; exact .inr (.inr (.inr (.inr ⟨op, rfl, rfl⟩)))
  all_goals
    cases h
    exact .inl (by simp)

/-- The event history is the step's to write (20_memory.md R66; log 18). -/
theorem exec_accesses {i : Instr} {s t : State} (h : exec i s = .next t) : t.accesses = s.accesses := by
  rcases exec_control_cases h with hk | ⟨-, v, hk⟩ | ⟨-, hk⟩ | ⟨-, e, hk⟩ | ⟨op, -, hk⟩ <;>
    · obtain ⟨-, -, -, -, -, -, -, hacc⟩ := hk
      exact hacc

end Sys2Proof.Machine
end

section
/-! SUPPORT. What an instruction can do to the draws, to SP and to memory; and the statements on who writes what. -/

namespace Sys2Proof.Machine

section
variable {i : Instr} {s t : State}

/-- Under `intel8080` no flag read is a draw; only a port's answer is (48_io.md R262). -/
theorem exec_draws_intel (h : exec i s = .next t) (hm : s.params.flagModel = .intel8080)
    (hi : i.form ≠ .inp) : t.draws = s.draws := by
  have hread : ∀ n, (s.flagsRead n).draws = s.draws := fun n => State.flagsRead_draws_intel s n hm
  cases i
  case inp port => exact absurd rfl hi
  case push p => cases h; cases p <;> simp [State.stackPairRead, hread]
  all_goals
    cases h
    simp [hread]

/-- A conditional call or return moves SP only when its condition holds (42_control_transfer.md R153, R155). -/
theorem State.callIf_sp_ne {cc : Cond} {target : Word} (h : (s.callIf cc target).sp ≠ s.sp) :
    conditionSeen s cc = true := by
  by_contra hc
  rw [State.callIf_notTaken s cc target (by simpa using hc)] at h
  exact h rfl

theorem State.returnIf_sp_ne {cc : Cond} (h : (s.returnIf cc).sp ≠ s.sp) : conditionSeen s cc = true := by
  by_contra hc
  rw [State.returnIf_notTaken s cc (by simpa using hc)] at h
  exact h rfl

/-- LXI, INX and DCX write SP only where their pair is SP (46_register_pair.md R230, R232, R233). -/
theorem State.setPair_sp_ne {p : Pair} {w : Word} (h : (s.setPair p w).sp ≠ s.sp) : p = .sp :=
  by_contra fun hp => h (State.setPair_sp_other s p w hp)

/-- Every instruction keeps memory canonical. -/
theorem exec_wf (h : exec i s = .next t) (hw : s.mem.wf) : t.mem.wf := by
  cases i
  case call => cases h; exact State.callTo_wf s _ hw
  case cnz | cz | cnc | cc | cpo | cpe | cp | cm => cases h; exact State.callIf_wf s _ _ hw
  case rst => cases h; exact State.push16_wf s _ hw
  case push p => cases h; exact State.push16_wf (s.stackPairRead p) _ (by simpa using hw)
  case xthl => cases h; simpa using State.writeWord_wf s s.sp s.regs.hl hw
  case inr | dcr => cases h; exact State.updated_wf s _ _ hw
  case mov | mvi => cases h; exact State.setOperand_wf s _ _ hw
  case sta | stax => cases h; exact State.writeByte_wf s _ _ hw
  case shld => cases h; exact State.writeWord_wf s _ _ hw
  all_goals
    cases h
    simpa using hw

end

/-- Settles O23, from the cases of the control part. -/
theorem controlStateHasFewWriters : Obligations.ControlStateHasFewWriters := by
  unfold Obligations.ControlStateHasFewWriters
  intro i s t h
  have hdraws : t.draws ≠ s.draws → i.form = .inp ∨ s.params.flagModel = .unmodelled := by
    intro hne
    cases hm : s.params.flagModel with
    | unmodelled => exact .inr rfl
    | intel8080 => exact .inl (by_contra fun hi => hne (exec_draws_intel h hm hi))
  rcases exec_control_cases h with hk | ⟨hi, v, hk⟩ | ⟨hi, hk⟩ | ⟨hi, e, hk⟩ | ⟨op, rfl, hk⟩ <;>
    obtain ⟨hinte, hhalted, hstall, hparams, htrace, hdiags, hio, -⟩ := hk
  · exact ⟨absurd hinte, absurd hhalted, absurd hio, absurd hdiags, hdraws, hparams, hstall, htrace⟩
  · exact ⟨fun _ => hi, absurd hhalted, absurd hio, absurd hdiags, hdraws, hparams, hstall, htrace⟩
  · exact ⟨absurd hinte, fun _ => hi, absurd hio, absurd hdiags, hdraws, hparams, hstall, htrace⟩
  · exact ⟨absurd hinte, absurd hhalted, fun _ => hi, absurd hdiags, hdraws, hparams, hstall, htrace⟩
  · exact ⟨absurd hinte, absurd hhalted, absurd hio, fun _ => rfl, hdraws, hparams, hstall, htrace⟩

/-- Settles O22, by the instruction: a form that is not listed keeps SP. -/
theorem onlyStackFormsWriteSp : Obligations.OnlyStackFormsWriteSp := by
  unfold Obligations.OnlyStackFormsWriteSp
  intro i s t h hne
  cases i
  case push p | pop p => exact .inl (by cases p <;> simp [Instr.form])
  case call | ret | rst | sphl => exact .inl (by simp [Instr.form])
  case cnz | cz | cnc | cc | cpo | cpe | cp | cm =>
    cases h
    exact .inr (.inl ⟨by simp [Instr.form], congrArg some (State.callIf_sp_ne hne)⟩)
  case rnz | rz | rnc | rc | rpo | rpe | rp | rm =>
    cases h
    exact .inr (.inl ⟨by simp [Instr.form], congrArg some (State.returnIf_sp_ne hne)⟩)
  case lxi p w =>
    cases h
    obtain rfl := State.setPair_sp_ne hne
    exact .inr (.inr (.inl ⟨w, rfl⟩))
  case inx p =>
    cases h
    obtain rfl := State.setPair_sp_ne hne
    exact .inr (.inr (.inr (.inl rfl)))
  case dcx p =>
    cases h
    obtain rfl := State.setPair_sp_ne hne
    exact .inr (.inr (.inr (.inr rfl)))
  all_goals -- every other form keeps SP
    cases h
    exact absurd (by simp [State.setPair_sp_other]) hne

end Sys2Proof.Machine
end

section
/-! SUPPORT. The decoder (30_encoding.md): what each row of its two tables reads, everything `decode` can answer,
and that a decoded instruction is well formed and encoded by the bytes it was read from. -/

namespace Sys2Proof

/-! ## Selector codes -/

@[simp] theorem Operand.code_ofCode (c : BitVec 3) : (Operand.ofCode c).code = c := by
  revert c
  decide

@[simp] theorem Pair.code_ofCode (c : BitVec 2) : (Pair.ofCode c).code = c := by
  revert c
  decide

@[simp] theorem StackPair.code_ofCode (c : BitVec 2) : (StackPair.ofCode c).code = c := by
  revert c
  decide

@[simp] theorem Cond.code_ofCode (c : BitVec 3) : (Cond.ofCode c).code = c := by
  revert c
  decide

/-! ## An opcode byte is its pattern with its fields put back (30_encoding.md R71, R81) -/

theorem byte_of_ddd (op v : Byte) (h : op &&& 0xC7 = v) : v ||| fieldAt (op.extractLsb' 3 3) 3 = op := by
  subst h
  revert op
  decide

theorem byte_of_sss (op v : Byte) (h : op &&& 0xF8 = v) : v ||| fieldAt (op.extractLsb' 0 3) 0 = op := by
  subst h
  revert op
  decide

theorem byte_of_rp (op v : Byte) (h : op &&& 0xCF = v) : v ||| fieldAt (op.extractLsb' 4 2) 4 = op := by
  subst h
  revert op
  decide

theorem byte_of_indexRp (op v : Byte) (h : op &&& 0xEF = v) : v ||| fieldAt (indexRpOf op).code 4 = op := by
  subst h
  revert op
  decide

theorem byte_of_ddd_sss (op v : Byte) (h : op &&& 0xC0 = v) :
    v ||| fieldAt (op.extractLsb' 3 3) 3 ||| fieldAt (op.extractLsb' 0 3) 0 = op := by
  subst h
  revert op
  decide

/-! ## The conditional forms (30_encoding.md R86, R91) -/

section
variable (target : Word) (cc : Cond) (x : Bool) (op : Byte)

@[simp] theorem encode_jumpOn :
    encode (Instr.jumpOn target cc) = [0xC2 ||| fieldAt cc.code 3, lo target, hi target] := by cases cc <;> rfl
@[simp] theorem Instr.jumpOn_wf : (Instr.jumpOn target cc).wf x = true := by cases cc <;> rfl
@[simp] theorem Instr.jumpOn_ne_unrecognized : Instr.jumpOn target cc ≠ .unrecognized op := by
  cases cc <;> exact Instr.noConfusion

@[simp] theorem encode_callOn :
    encode (Instr.callOn target cc) = [0xC4 ||| fieldAt cc.code 3, lo target, hi target] := by cases cc <;> rfl
@[simp] theorem Instr.callOn_wf : (Instr.callOn target cc).wf x = true := by cases cc <;> rfl
@[simp] theorem Instr.callOn_ne_unrecognized : Instr.callOn target cc ≠ .unrecognized op := by
  cases cc <;> exact Instr.noConfusion

@[simp] theorem encode_returnOn : encode (Instr.returnOn cc) = [0xC0 ||| fieldAt cc.code 3] := by cases cc <;> rfl
@[simp] theorem Instr.returnOn_wf : (Instr.returnOn cc).wf x = true := by cases cc <;> rfl
@[simp] theorem Instr.returnOn_ne_unrecognized : Instr.returnOn cc ≠ .unrecognized op := by
  cases cc <;> exact Instr.noConfusion

end

theorem Instr.wf_mov (x : Bool) (d s : Operand) :
    (Instr.mov d s).wf x = true ↔ Instr.mov d s ≠ .mov .mem .mem := by
  cases d <;> cases s <;> simp [Instr.wf]

/-! ## The rows of the two tables -/

section
variable (op b1 b2 : Byte)

theorem exactTable_encode_prefix : ∀ r ∈ exactTable, encode (r.build b1 b2) <+: [r.opcode, b1, b2] := by
  simp only [exactTable, List.cons_append, List.nil_append, List.forall_mem_cons]
  simp [encode, Instr.opcode, Instr.operandBytes, fieldAt, Operand.code]

theorem exactTable_wf (x : Bool) : ∀ r ∈ exactTable, (x || !r.extra) = true → (r.build b1 b2).wf x = true := by
  simp [exactTable, Instr.wf]

theorem exactTable_ne_unrecognized (u : Byte) : ∀ r ∈ exactTable, r.build b1 b2 ≠ .unrecognized u := by
  simp [exactTable]

theorem familyTable_encode_prefix :
    ∀ f ∈ familyTable, f.matches op = true → encode (f.build op b1 b2) <+: [op, b1, b2] := by
  simp only [familyTable, List.cons_append, List.nil_append, List.forall_mem_cons, encode_jumpOn, encode_callOn,
    encode_returnOn]
  simp +contextual [FamilyRow.matches, encode, Instr.opcode, Instr.operandBytes, sssOf, dddOf, rpOf, stackRpOf, cccOf,
    nnnOf, byte_of_ddd, byte_of_sss, byte_of_rp, byte_of_indexRp, byte_of_ddd_sss]

/-- MOV M,M is the one term a family builds that is no instruction (30_encoding.md R80). -/
theorem familyTable_wf (x : Bool) :
    ∀ f ∈ familyTable, f.build op b1 b2 ≠ .mov .mem .mem → (f.build op b1 b2).wf x = true := by
  simp only [familyTable, List.cons_append, List.nil_append, List.forall_mem_cons, Instr.jumpOn_wf, Instr.callOn_wf,
    Instr.returnOn_wf, Instr.wf_mov]
  simp [Instr.wf]

theorem familyTable_ne_unrecognized (u : Byte) : ∀ f ∈ familyTable, f.build op b1 b2 ≠ .unrecognized u := by
  simp [familyTable]

end

/-- A byte that no entry and no family matches is one of those of R84 and R85. -/
theorem unrecognizedBytes_of_unmatched : ∀ (x : Bool) (op : Byte),
    exactTable.any (fun r => r.matches x op) = false → familyTable.any (fun f => f.matches op) = false →
    (unrecognizedBytes x).contains op = true := by decide

/-! ## The decoder (30_encoding.md R72 to R90) -/

/-- Everything the decoder can answer: the record of the entry, of the family where no entry matches, or of the
unrecognized byte where nothing does. -/
theorem decode_cases (x : Bool) (b0 b1 b2 : Byte) :
    (∃ r ∈ exactTable, r.matches x b0 = true ∧ decode x b0 b1 b2 = recordOf b0 b1 b2 .exact (r.build b1 b2))
      ∨ (exactTable.any (fun r => r.matches x b0) = false ∧ ∃ f ∈ familyTable, f.matches b0 = true
          ∧ decode x b0 b1 b2 = recordOf b0 b1 b2 (.masked f.family) (f.build b0 b1 b2))
      ∨ (exactTable.any (fun r => r.matches x b0) = false ∧ familyTable.any (fun f => f.matches b0) = false
          ∧ decode x b0 b1 b2 = recordOf b0 b1 b2 .unmatched (.unrecognized b0)) := by
  unfold decode
  cases hexact : exactTable.find? (fun r => r.matches x b0) with
  | some r =>
    have hm : r.matches x b0 = true := by simpa using List.find?_some hexact
    exact .inl ⟨r, List.mem_of_find?_eq_some hexact, hm, rfl⟩
  | none =>
    have hnoentry : exactTable.any (fun r => r.matches x b0) = false := by simpa using hexact
    cases hfam : familyTable.find? (fun f => f.matches b0) with
    | some f =>
      have hm : f.matches b0 = true := by simpa using List.find?_some hfam
      exact .inr (.inl ⟨hnoentry, f, List.mem_of_find?_eq_some hfam, hm, rfl⟩)
    | none => exact .inr (.inr ⟨hnoentry, by simpa using hfam, rfl⟩)

section
variable (x : Bool) (b0 b1 b2 : Byte)

@[simp] theorem decode_opcode : (decode x b0 b1 b2).opcode = b0 := by
  rcases decode_cases x b0 b1 b2 with ⟨r, -, -, h⟩ | ⟨-, f, -, -, h⟩ | ⟨-, -, h⟩ <;> rw [h] <;> rfl

theorem decode_length : (decode x b0 b1 b2).length = (decode x b0 b1 b2).instr.length := by
  rcases decode_cases x b0 b1 b2 with ⟨r, -, -, h⟩ | ⟨-, f, -, -, h⟩ | ⟨-, -, h⟩ <;> rw [h] <;> rfl

/-- Stage 3 is what answers `unrecognized` (30_encoding.md R84). -/
theorem decode_unmatched_iff (op : Byte) :
    (decode x b0 b1 b2).instr = .unrecognized op ↔ (decode x b0 b1 b2).stage = .unmatched ∧ op = b0 := by
  rcases decode_cases x b0 b1 b2 with ⟨r, hr, -, h⟩ | ⟨-, f, hf, -, h⟩ | ⟨-, -, h⟩ <;> rw [h]
  · simpa [recordOf] using exactTable_ne_unrecognized b1 b2 op r hr
  · simpa [recordOf] using familyTable_ne_unrecognized b0 b1 b2 op f hf
  · simp [recordOf, eq_comm]

/-- The instruction read is encoded by the bytes it was read from (30_encoding.md R73, R90). -/
theorem encode_decode_prefix : encode (decode x b0 b1 b2).instr <+: [b0, b1, b2] := by
  rcases decode_cases x b0 b1 b2 with ⟨r, hr, hm, h⟩ | ⟨-, f, hf, hm, h⟩ | ⟨-, -, h⟩ <;> rw [h]
  · obtain ⟨rfl, -⟩ : r.opcode = b0 ∧ _ := by simpa [ExactRow.matches] using hm
    exact exactTable_encode_prefix b1 b2 r hr
  · exact familyTable_encode_prefix b0 b1 b2 f hf hm
  · simp [recordOf, encode, Instr.opcode, Instr.operandBytes]

/-- Every byte sequence decodes to an instruction of the hardware (30_encoding.md R73, R90): the byte of MOV M,M is
the entry of HLT. -/
theorem decode_wf : (decode x b0 b1 b2).instr.wf x = true := by
  rcases decode_cases x b0 b1 b2 with ⟨r, hr, hm, h⟩ | ⟨hnoentry, f, hf, hm, h⟩ | ⟨hnoentry, hnofam, h⟩ <;> rw [h]
  · exact exactTable_wf b1 b2 x r hr (Bool.and_eq_true_iff.1 hm).2
  · refine familyTable_wf b0 b1 b2 x f hf fun hmov => ?_
    have hp := familyTable_encode_prefix b0 b1 b2 f hf hm
    rw [hmov] at hp
    obtain rfl : 0x76 = b0 := (List.cons_prefix_cons.1 hp).1
    simp [exactTable, ExactRow.matches] at hnoentry
  · exact unrecognizedBytes_of_unmatched x b0 hnoentry hnofam

/-- An instruction's encoding has the length of its form (30_encoding.md R89). -/
theorem encode_length (i : Instr) : (encode i).length = i.length := by
  cases i
  case push p => exact Laws.EncodeLength.push p
  case pop p => exact Laws.EncodeLength.pop p
  case add o => exact Laws.EncodeLength.add o
  case adc o => exact Laws.EncodeLength.adc o
  case sub o => exact Laws.EncodeLength.sub o
  case sbb o => exact Laws.EncodeLength.sbb o
  case ana o => exact Laws.EncodeLength.ana o
  case xra o => exact Laws.EncodeLength.xra o
  case ora o => exact Laws.EncodeLength.ora o
  case cmp o => exact Laws.EncodeLength.cmp o
  case inr o => exact Laws.EncodeLength.inr o
  case dcr o => exact Laws.EncodeLength.dcr o
  case mov d o => exact Laws.EncodeLength.mov d o
  case mvi d v => exact Laws.EncodeLength.mvi d v
  all_goals rfl

/-- The bytes a decoded instruction consumes are its encoding (30_encoding.md R74, R90). -/
theorem encode_decode :
    encode (decode x b0 b1 b2).instr = [b0, b1, b2].take (decode x b0 b1 b2).length := by
  rw [decode_length, ← encode_length]
  exact List.prefix_iff_eq_take.1 (encode_decode_prefix x b0 b1 b2)

theorem decode_length_le : (decode x b0 b1 b2).length ≤ 3 := by
  rw [decode_length, ← encode_length]
  exact (encode_decode_prefix x b0 b1 b2).length_le

end

end Sys2Proof
end

section
/-! SUPPORT. One step (40_execution_engine.md R110): what it records, and that it keeps the invariant of a run. -/

namespace Sys2Proof.Machine

section
variable {i : Instr} {s t : State}

/-! ## The event history (20_memory.md R66) -/

theorem State.fetchesOf_value (n : Nat) (h : n ≤ 3) :
    (s.fetchesOf n).map Access.value
      = [s.readByte s.pc, s.readByte (s.pc + 1), s.readByte (s.pc + 2)].take n := by
  interval_cases n <;> simp [State.fetchesOf, List.range_succ]

theorem State.fetchesOf_filter_fetch (n : Nat) :
    (s.fetchesOf n).filter (fun x => x.kind == .fetch) = s.fetchesOf n := by
  simp [State.fetchesOf, List.filter_eq_self]

/-- No data access is a fetch. -/
theorem State.dataAccesses_filter_fetch (i : Instr) :
    (s.dataAccesses i).filter (fun x => x.kind == .fetch) = [] := by
  have hl (o : Operand) : (s.operandLoad o).filter (fun x => x.kind == .fetch) = [] := by
    cases o <;> simp [State.operandLoad, State.loadAt]
  have hs (v : Byte) (o : Operand) : (s.operandStore v o).filter (fun x => x.kind == .fetch) = [] := by
    cases o <;> simp [State.operandStore, storeAt]
  have hlw (a : Word) : (s.loadWordAt a).filter (fun x => x.kind == .fetch) = [] := by
    simp [State.loadWordAt, State.loadAt]
  have hsw (a w : Word) : (storeWordAt a w).filter (fun x => x.kind == .fetch) = [] := by
    simp [storeWordAt, storeAt]
  cases i <;> simp [State.dataAccesses, State.loadAt, storeAt, hl, hs, hlw, hsw, apply_ite]

/-! ## The stall (70_reset_and_hazards.md R298) -/

theorem defaultStall_le (taken : Bool) (f : Form) : defaultStall taken f ≤ 4 := by
  cases taken <;> cases f <;> decide

theorem stallOf_le {p : Params} (h : p.stallRows = []) (f : Form) (taken : Bool) : stallOf p f taken ≤ 4 := by
  simp [stallOf, h, defaultStall_le]

/-! ## One step -/

/-- Everything a step can be (40_execution_engine.md R110). -/
theorem step_cases {s s' : State} (h : step s = .next s') :
    s.halted = false
      ∧ ((0 < s.stall ∧ s' = s.stallStep)
        ∨ (s.stall = 0 ∧ ∃ t, exec s.fetched.instr s = .next t ∧ s' = s.retire s.fetched t)) := by
  unfold step at h
  split at h
  case isTrue => cases h
  case isFalse hrun =>
    refine ⟨Bool.eq_false_of_not_eq_true hrun, ?_⟩
    split at h
    case isTrue hstall =>
      cases h
      exact .inl ⟨hstall, rfl⟩
    case isFalse hstall =>
      unfold State.runInstruction at h
      cases ht : exec s.fetched.instr s with
      | next t =>
        rw [ht] at h
        cases h
        exact .inr ⟨Nat.eq_zero_of_not_pos hstall, t, rfl, rfl⟩
      | fault r => rw [ht] at h; cases h
      | refused r => rw [ht] at h; cases h

/-! `retire`: what the step adds to what `exec` answered -/

section
variable (d : DecodedInstruction) (after : State)

@[simp] theorem State.retire_mem : (s.retire d after).mem = after.mem := rfl
@[simp] theorem State.retire_halted : (s.retire d after).halted = after.halted := rfl
@[simp] theorem State.retire_params : (s.retire d after).params = after.params := rfl
@[simp] theorem State.retire_diags : (s.retire d after).diags = after.diags := rfl
@[simp] theorem State.retire_stall :
    (s.retire d after).stall = stallOf s.params d.form ((s.takenBy d.instr).getD false) := rfl
@[simp] theorem State.retire_trace : (s.retire d after).trace = after.trace ++ [s.traceRecord d] := rfl
@[simp] theorem State.retire_accesses :
    (s.retire d after).accesses = after.accesses ++ (s.fetchesOf d.length ++ s.dataAccesses d.instr) := rfl

end

/-! ## What an instruction step records (60_exceptions.md R271, R275) -/

theorem State.fetched_unmatched_iff (op : Byte) :
    s.fetched.instr = .unrecognized op ↔ s.fetched.stage = .unmatched ∧ op = s.readByte s.pc :=
  decode_unmatched_iff _ _ _ _ op

theorem State.diagnosticOf_matched {d : DecodedInstruction} (h : d.stage ≠ .unmatched) :
    s.diagnosticOf d = none := by
  unfold State.diagnosticOf
  split
  · exact absurd ‹_› h
  all_goals rfl

theorem State.diagnosticOf_unmatched {d : DecodedInstruction} (h : d.stage = .unmatched) :
    s.diagnosticOf d = some { opcode := d.opcode, pc := s.pc } := by
  rw [State.diagnosticOf, h]

/-- Only the unrecognized byte is reported (60_exceptions.md R271). -/
theorem exec_diags (h : exec i s = .next t) (hi : ∀ op, i ≠ .unrecognized op) : t.diags = s.diags := by
  rcases exec_control_cases h with hk | ⟨-, _, hk⟩ | ⟨-, hk⟩ | ⟨-, _, hk⟩ | ⟨op, hop, -⟩
  case inr.inr.inr.inr => exact absurd hop (hi op)
  all_goals
    obtain ⟨-, -, -, -, -, hdiags, -⟩ := hk
    exact hdiags

/-- The diagnostic an instruction reports is the one its trace record carries. -/
theorem exec_fetched_diags (h : exec s.fetched.instr s = .next t) :
    t.diags = s.diags ++ (s.traceRecord s.fetched).diag.toList := by
  change _ = _ ++ (s.diagnosticOf s.fetched).toList
  by_cases hst : s.fetched.stage = .unmatched
  · have hop : s.fetched.opcode = s.readByte s.pc := decode_opcode _ _ _ _
    rw [(State.fetched_unmatched_iff _).2 ⟨hst, rfl⟩] at h
    cases h
    rw [State.diagnosticOf_unmatched hst, hop]
    rfl
  · rw [exec_diags h fun op hop => hst ((State.fetched_unmatched_iff op).1 hop).1,
      State.diagnosticOf_matched hst]
    simp

theorem State.traceRecord_bytes (s : State) : (s.traceRecord s.fetched).bytes = encode s.fetched.instr := by
  rw [State.fetched, encode_decode]
  exact State.fetchesOf_value _ (decode_length_le _ _ _ _)

/-- The fetches an instruction step adds to the event history are the bytes of its trace record. -/
theorem State.fetches_bytes (d : DecodedInstruction) :
    ((s.fetchesOf d.length ++ s.dataAccesses d.instr).filter (fun x => x.kind == .fetch)).map Access.value
      = (s.traceRecord d).bytes := by
  rw [List.filter_append, State.fetchesOf_filter_fetch, State.dataAccesses_filter_fetch, List.append_nil]
  rfl

/-! ## The invariant -/

theorem State.Inv.stallStep (hs : s.Inv) : s.stallStep.Inv :=
  { hs with stalls := fun hrows => (Nat.sub_le _ _).trans (hs.stalls hrows) }

theorem State.Inv.retire (hs : s.Inv) (hrun : s.halted = false) (h : exec s.fetched.instr s = .next t) :
    (s.retire s.fetched t).Inv := by
  obtain ⟨-, hhalted, -, -, -, hparams, -, htrace⟩ := controlStateHasFewWriters _ s t h
  have hacc := exec_accesses h
  constructor
  case memory => exact (exec_wf h hs.memory : t.mem.wf)
  case diags =>
    rw [State.retire_diags, State.retire_trace, exec_fetched_diags h, hs.diags, htrace, List.filterMap_append]
    cases hd : (s.traceRecord s.fetched).diag <;> simp [hd]
  case records =>
    rw [State.retire_params, State.retire_trace, hparams, htrace]
    intro r hr
    rcases List.mem_append.1 hr with hr | hr
    · exact hs.records r hr
    · obtain rfl := List.mem_singleton.1 hr
      exact ⟨decode_wf _ _ _ _, State.traceRecord_bytes s⟩
  case fetches =>
    rw [State.retire_accesses, State.retire_trace, hacc, htrace, List.filter_append, List.map_append, hs.fetches,
      State.fetches_bytes, List.flatMap_append]
    simp
  case ended =>
    intro hend
    exact ⟨s.traceRecord s.fetched, by simp, hhalted (by simpa [hrun] using hend)⟩
  case stalls =>
    rw [State.retire_params, hparams]
    exact fun hrows => stallOf_le hrows _ _

end

/-- Settles O11, by the two kinds of step: a stall step changes the stall alone, and an instruction step
adds one record to the trace and its accesses to the history. -/
theorem everyStepKeepsTheInvariant : Obligations.EveryStepKeepsTheInvariant := by
  unfold Obligations.EveryStepKeepsTheInvariant
  intro s s' hs h
  obtain ⟨hrun, ⟨-, rfl⟩ | ⟨-, t, ht, rfl⟩⟩ := step_cases h
  · exact hs.stallStep
  · exact hs.retire hrun ht

end Sys2Proof.Machine
end

section
/-! SUPPORT. The byte accesses of an instruction (20_memory.md R57, R66): the shape of their list, and memory
after an instruction as the replay of its stores. -/

namespace Sys2Proof.Machine

/-! ## The list of data accesses -/

section
variable (s : State)

@[simp] theorem State.loadAt_kind (a : Word) : (s.loadAt a).kind = .load := rfl
@[simp] theorem State.loadAt_addr (a : Word) : (s.loadAt a).addr = a := rfl
@[simp] theorem storeAt_kind (a : Word) (v : Byte) : (storeAt a v).kind = .store := rfl
@[simp] theorem storeAt_addr (a : Word) (v : Byte) : (storeAt a v).addr = a := rfl

/-- What an instruction stores: nothing, one byte, or one word (20_memory.md R57). -/
def StoresAtMostAWord (l : List Access) : Prop :=
  l = [] ∨ (∃ a v, l = [storeAt a v]) ∨ ∃ a w, l = storeWordAt a w

theorem StoresAtMostAWord.nil : StoresAtMostAWord [] := .inl rfl
theorem StoresAtMostAWord.byte (a : Word) (v : Byte) : StoresAtMostAWord [storeAt a v] := .inr (.inl ⟨a, v, rfl⟩)
theorem StoresAtMostAWord.word (a w : Word) : StoresAtMostAWord (storeWordAt a w) := .inr (.inr ⟨a, w, rfl⟩)

theorem StoresAtMostAWord.kind {l : List Access} (h : StoresAtMostAWord l) : ∀ x ∈ l, x.kind = .store := by
  rcases h with rfl | ⟨a, v, rfl⟩ | ⟨a, w, rfl⟩ <;> simp [storeWordAt]

/-- No instruction stores twice to one address: the bytes of a word never share one (20_memory.md R56). -/
theorem StoresAtMostAWord.addr_injOn {l : List Access} (h : StoresAtMostAWord l) {x y : Access} (hx : x ∈ l)
    (hy : y ∈ l) (hxy : x.addr = y.addr) : x = y := by
  rcases h with rfl | ⟨a, v, rfl⟩ | ⟨a, w, rfl⟩
  · cases hx
  · rw [List.mem_singleton.1 hx, List.mem_singleton.1 hy]
  · simp only [storeWordAt, List.mem_cons, List.not_mem_nil, or_false] at hx hy
    obtain rfl | rfl := hx <;> obtain rfl | rfl := hy
    · rfl
    · exact absurd hxy.symm (Word.add_one_ne a)
    · exact absurd hxy (Word.add_one_ne a)
    · rfl

theorem State.operandLoad_cases (o : Operand) : ∃ addrs : List Word, s.operandLoad o = addrs.map s.loadAt := by
  cases o with
  | reg r => exact ⟨[], rfl⟩
  | mem => exact ⟨[s.regs.hl], rfl⟩

theorem State.operandStore_cases (v : Byte) (o : Operand) : StoresAtMostAWord (s.operandStore v o) := by
  cases o with
  | reg r => exact .nil
  | mem => exact .byte s.regs.hl v

/-- Everything the data accesses of an instruction can be: loads of the state before it, then its stores. -/
theorem State.dataAccesses_cases (i : Instr) :
    ∃ (addrs : List Word) (stores : List Access),
      s.dataAccesses i = addrs.map s.loadAt ++ stores ∧ StoresAtMostAWord stores := by
  cases i
  case add o | adc o | sub o | sbb o | ana o | xra o | ora o | cmp o =>
    obtain ⟨addrs, h⟩ := s.operandLoad_cases o
    exact ⟨addrs, [], by simpa [State.dataAccesses] using h, .nil⟩
  case inr o | dcr o =>
    obtain ⟨addrs, h⟩ := s.operandLoad_cases o
    exact ⟨addrs, _, by rw [State.dataAccesses, h], s.operandStore_cases _ o⟩
  case mov d o =>
    obtain ⟨addrs, h⟩ := s.operandLoad_cases o
    exact ⟨addrs, _, by rw [State.dataAccesses, h], s.operandStore_cases _ d⟩
  case mvi d v => exact ⟨[], _, rfl, s.operandStore_cases v d⟩
  case lda a => exact ⟨[a], [], rfl, .nil⟩
  case ldax p => exact ⟨[s.indexAddr p], [], rfl, .nil⟩
  case sta | stax => exact ⟨[], _, rfl, .byte _ _⟩
  case lhld a => exact ⟨[a, a + 1], [], rfl, .nil⟩
  case shld | push | call | rst => exact ⟨[], _, rfl, .word _ _⟩
  case pop | ret => exact ⟨[s.sp, s.sp + 1], [], rfl, .nil⟩
  case xthl => exact ⟨[s.sp, s.sp + 1], _, rfl, .word _ _⟩
  case cnz | cz | cnc | cc | cpo | cpe | cp | cm =>
    dsimp only [State.dataAccesses]
    split
    · exact ⟨[], _, rfl, .word _ _⟩
    · exact ⟨[], [], rfl, .nil⟩
  case rnz | rz | rnc | rc | rpo | rpe | rp | rm =>
    dsimp only [State.dataAccesses]
    split
    · exact ⟨[s.sp, s.sp + 1], [], rfl, .nil⟩
    · exact ⟨[], [], rfl, .nil⟩
  all_goals exact ⟨[], [], rfl, .nil⟩

/-- A load records the byte that stood at its address (20_memory.md R66). -/
theorem State.dataAccesses_load_value (i : Instr) {x : Access} (hx : x ∈ s.dataAccesses i) (hk : x.kind = .load) :
    x.value = s.readByte x.addr := by
  obtain ⟨addrs, stores, h, hs⟩ := s.dataAccesses_cases i
  rw [h, List.mem_append, List.mem_map] at hx
  obtain ⟨a, -, rfl⟩ | hx := hx
  · rfl
  · rw [hs.kind x hx] at hk
    cases hk

/-- Two stores of an instruction to one address are one. -/
theorem State.dataAccesses_store_addr_injOn (i : Instr) {x y : Access} (hx : x ∈ s.dataAccesses i)
    (hy : y ∈ s.dataAccesses i) (hxk : x.kind = .store) (hyk : y.kind = .store) (hxy : x.addr = y.addr) : x = y := by
  obtain ⟨addrs, stores, h, hs⟩ := s.dataAccesses_cases i
  have hstores : ∀ z ∈ s.dataAccesses i, z.kind = .store → z ∈ stores := by
    intro z hz hk
    rw [h, List.mem_append, List.mem_map] at hz
    obtain ⟨a, -, rfl⟩ | hz := hz
    · cases hk
    · exact hz
  exact hs.addr_injOn (hstores x hx hxk) (hstores y hy hyk) hxy

/-! ## Memory as the replay of the stores -/

/-- One access done again: a store writes its byte, a read changes nothing. -/
def State.redo (s : State) (x : Access) : State :=
  match x.kind with
  | .store => s.writeByte x.addr x.value
  | .load | .fetch => s

/-- The stores of an access list done again, in order. -/
def State.replay (s : State) (l : List Access) : State := l.foldl State.redo s

@[simp] theorem State.replay_nil : s.replay [] = s := rfl
@[simp] theorem State.replay_append (l m : List Access) : s.replay (l ++ m) = (s.replay l).replay m :=
  List.foldl_append
@[simp] theorem State.replay_loadAt (u : State) (a : Word) : s.replay [u.loadAt a] = s := rfl
@[simp] theorem State.replay_loadWordAt (u : State) (a : Word) : s.replay (u.loadWordAt a) = s := rfl
@[simp] theorem State.replay_storeAt (a : Word) (v : Byte) : s.replay [storeAt a v] = s.writeByte a v := rfl
@[simp] theorem State.replay_storeWordAt (a w : Word) : s.replay (storeWordAt a w) = s.writeWord a w := rfl
@[simp] theorem State.replay_operandLoad (u : State) (o : Operand) : s.replay (u.operandLoad o) = s := by
  cases o <;> rfl
@[simp] theorem State.replay_operandStore_mem (v : Byte) (o : Operand) :
    (s.replay (s.operandStore v o)).mem = (s.setOperand o v).mem := by cases o <;> rfl

theorem State.readByte_redo (x : Access) (a : Word) :
    (s.redo x).readByte a = if x.kind == .store && x.addr == a then x.value else s.readByte a := by
  obtain ⟨kind, addr, value⟩ := x
  cases kind with
  | store => simp [State.redo, State.readByte_writeByte, @eq_comm Word a]
  | load | fetch => simp [State.redo]

/-- A byte after a replay: the last one stored there, or the old one. -/
theorem State.readByte_replay (l : List Access) (a : Word) :
    (s.replay l).readByte a
      = match (l.filter (fun x => x.kind == .store && x.addr == a)).getLast? with
        | some x => x.value
        | none => s.readByte a := by
  induction l using List.reverseRecOn with
  | nil => rfl
  | append_singleton l x ih =>
    have hlast : (s.replay (l ++ [x])).readByte a
        = if x.kind == .store && x.addr == a then x.value else (s.replay l).readByte a := by
      rw [State.replay_append]
      exact State.readByte_redo _ x a
    rw [hlast, List.filter_append]
    cases hx : x.kind == .store && x.addr == a
    · simpa [hx] using ih
    · simp [hx]

/-- A byte an instruction stores is there after the replay: it stores once to an address. -/
theorem State.readByte_replay_dataAccesses (i : Instr) {x : Access} (hx : x ∈ s.dataAccesses i)
    (hk : x.kind = .store) : (s.replay (s.dataAccesses i)).readByte x.addr = x.value := by
  have hmem : x ∈ (s.dataAccesses i).filter (fun y => y.kind == .store && y.addr == x.addr) := by
    simp [List.mem_filter, hx, hk]
  rw [State.readByte_replay]
  cases hlast : ((s.dataAccesses i).filter (fun y => y.kind == .store && y.addr == x.addr)).getLast? with
  | none =>
    rw [List.getLast?_eq_none_iff] at hlast
    simp [hlast] at hmem
  | some y =>
    obtain ⟨hy, hyx⟩ := List.mem_filter.1 (List.mem_of_getLast? hlast)
    obtain ⟨hyk, hya⟩ : y.kind = .store ∧ y.addr = x.addr := by simpa using hyx
    exact congrArg Access.value (s.dataAccesses_store_addr_injOn i hy hx hyk hk hya)

end

/-! ## What the shared operations store -/

section
variable (s : State)

@[simp] theorem State.updated_mem (d : Operand) (r : AluResult) :
    (s.updated d r).mem = (s.setOperand d r.value).mem := rfl

@[simp] theorem State.stackPairRead_sp (p : StackPair) : (s.stackPairRead p).sp = s.sp := by cases p <;> rfl

@[simp] theorem State.callTo_mem (target : Word) :
    (s.callTo target).mem = (s.writeWord (s.sp - 2) (s.pc + 3)).mem := rfl

theorem State.callIf_mem (cc : Cond) (target : Word) :
    (s.callIf cc target).mem = if s.holds cc = true then (s.writeWord (s.sp - 2) (s.pc + 3)).mem else s.mem := by
  unfold State.callIf
  split <;> rfl

end

section
variable {i : Instr} {s t : State}

/-- Memory after an instruction is the memory before it with the stores it records written in order
(20_memory.md R61, R66). -/
theorem exec_mem (h : exec i s = .next t) : t.mem = (s.replay (s.dataAccesses i)).mem := by
  cases i
  case cnz | cz | cnc | cc | cpo | cpe | cp | cm =>
    cases h
    simp only [State.callIf_mem, State.dataAccesses, State.takenBy, Instr.cond, Option.map_some, Option.some_inj]
    split <;> rfl
  all_goals -- every other form stores in its list what its operations write
    cases h
    simp [State.dataAccesses, apply_ite s.replay]

end

/-- Settles O21, from the shape of the access list and the replay of its stores. -/
theorem memoryIsTheReplayOfItsStores : Obligations.MemoryIsTheReplayOfItsStores := by
  unfold Obligations.MemoryIsTheReplayOfItsStores
  intro i s t h
  refine ⟨fun x hx hk => s.dataAccesses_load_value i hx hk, fun a => ?_⟩
  rw [State.readByte, exec_mem h]
  exact s.readByte_replay (s.dataAccesses i) a

/-! ## Words in memory (20_memory.md R51, R52) -/

section
variable (s : State) (a w : Word)

theorem State.readByte_writeWord_low : (s.writeWord a w).readByte a = lo w := by
  rw [State.readByte_writeWord, if_neg (Word.add_one_ne a).symm, if_pos rfl]

theorem State.readByte_writeWord_high : (s.writeWord a w).readByte (a + 1) = hi w := by
  rw [State.readByte_writeWord, if_pos rfl]

theorem State.readByte_writeWord_other (b : Word) (h : b ≠ a) (h' : b ≠ a + 1) :
    (s.writeWord a w).readByte b = s.readByte b := by
  rw [State.readByte_writeWord, if_neg h', if_neg h]

theorem State.readWord_writeWord : (s.writeWord a w).readWord a = w := by
  rw [State.readWord, State.readByte_writeWord_low, State.readByte_writeWord_high, cat16_hi_lo]

theorem State.writeByte_writeByte_succ (l h : Byte) :
    (s.writeByte a l).writeByte (a + 1) h = s.writeWord a (cat16 h l) := by
  rw [State.writeWord, hi_cat16, lo_cat16]

end

/-- Settles O26, from the laws of memory; the two bytes of a word have two addresses. -/
theorem memoryReadsBackWhatWasWritten : Obligations.MemoryReadsBackWhatWasWritten := by
  unfold Obligations.MemoryReadsBackWhatWasWritten
  intro s a b v l h w
  refine ⟨s.readByte_writeByte a b v, cat16_toNat _ _, ?_, ?_, s.readWord_writeWord a w, ?_,
    s.readByte_writeWord_other a w b, fun hw => ⟨s.writeByte_wf a v hw, s.writeWord_wf a w hw⟩⟩
  · rw [State.readByte_writeWord_low, lo_toNat]
  · rw [State.readByte_writeWord_high, hi_toNat]
  · rw [State.writeByte_writeByte_succ, State.readWord_writeWord]

end Sys2Proof.Machine
end

section
/-! SUPPORT. One instruction step (40_execution_engine.md R110): what it appends to the records, what it leaves for
the next one to decode, and the accesses of each form. -/

namespace Sys2Proof.Machine

/-! ## An instruction step -/

section
variable {s t : State}

/-- Every instruction has a next state (40_execution_engine.md R122). -/
theorem exec_next (i : Instr) (s : State) : ∃ t, exec i s = .next t := by
  cases i <;> exact ⟨_, rfl⟩

theorem exists_step (hrun : s.halted = false) (hstall : s.stall = 0) : ∃ t, step s = .next t := by
  obtain ⟨t, h⟩ := exec_next s.fetched.instr s
  exact ⟨s.retire s.fetched t, by simp [step, hrun, hstall, State.runInstruction, h]⟩

/-- A step with no stall pending is an instruction step. -/
theorem step_instruction (hstall : s.stall = 0) (h : step s = .next t) :
    ∃ after, exec s.fetched.instr s = .next after ∧ t = s.retire s.fetched after := by
  obtain ⟨-, ⟨hpos, -⟩ | ⟨-, hexec⟩⟩ := step_cases h
  · omega
  · exact hexec

/-- An instruction step traces the record it fetched (60_exceptions.md R275). -/
theorem step_trace (hstall : s.stall = 0) (h : step s = .next t) :
    t.trace = s.trace ++ [s.traceRecord s.fetched] := by
  obtain ⟨after, hexec, rfl⟩ := step_instruction hstall h
  obtain ⟨-, -, -, -, -, -, -, htrace⟩ := controlStateHasFewWriters _ s after hexec
  rw [State.retire_trace, htrace]

/-- The history of an instruction step: its fetches, then its data accesses (20_memory.md R66). -/
theorem step_accesses (hstall : s.stall = 0) (h : step s = .next t) :
    t.accesses = s.accesses ++ (s.fetchesOf s.fetched.length ++ s.dataAccesses s.fetched.instr) := by
  obtain ⟨after, hexec, rfl⟩ := step_instruction hstall h
  rw [State.retire_accesses, exec_accesses hexec]

theorem step_params (h : step s = .next t) : t.params = s.params := by
  obtain ⟨-, ⟨-, rfl⟩ | ⟨-, after, hexec, rfl⟩⟩ := step_cases h
  · rfl
  · obtain ⟨-, -, -, -, -, hparams, -, -⟩ := controlStateHasFewWriters _ s after hexec
    exact hparams

/-- A byte an instruction stores stands in memory after its step. -/
theorem step_stored (hstall : s.stall = 0) (h : step s = .next t) {x : Access}
    (hx : x ∈ s.dataAccesses s.fetched.instr) (hk : x.kind = .store) : t.readByte x.addr = x.value := by
  obtain ⟨after, hexec, rfl⟩ := step_instruction hstall h
  rw [State.readByte, State.retire_mem, exec_mem hexec]
  exact s.readByte_replay_dataAccesses _ hx hk

/-- What the next instruction step decodes (20_memory.md R63): the memory this one left. -/
theorem step_next_fetched (h : step s = .next t) :
    ({ t with stall := 0 } : State).fetched
      = decode s.params.decodeExtra (t.readByte t.pc) (t.readByte (t.pc + 1)) (t.readByte (t.pc + 2)) := by
  rw [← step_params h]
  rfl

/-- The bytes of a trace record are the bytes at pc on (60_exceptions.md R275). -/
theorem State.traceRecord_bytes_getElem? (s : State) (d : DecodedInstruction) {k : Nat} (hk : k < d.length) :
    (s.traceRecord d).bytes[k]? = some (s.readByte (s.pc + BitVec.ofNat 16 k)) := by
  simp [State.traceRecord, State.fetchesOf, hk]

/-- STA leaves A at its address and pc after itself (47_load_store.md R246). -/
theorem step_sta (hstall : s.stall = 0) (h : step s = .next t) {addr : Word} (hsta : s.fetched.instr = .sta addr) :
    t.pc = s.pc + 3 ∧ t.readByte addr = s.regs.a := by
  obtain ⟨after, hexec, rfl⟩ := step_instruction hstall h
  rw [hsta] at hexec
  cases hexec
  exact ⟨rfl, s.readByte_writeByte_same addr s.regs.a⟩

end

/-- Settles O27: a step decodes the memory as it stands before it, and a byte it stores stands there after it. -/
theorem storeIsSeenByTheNextFetch : Obligations.StoreIsSeenByTheNextFetch := by
  unfold Obligations.StoreIsSeenByTheNextFetch
  constructor
  · intro s hrun hstall
    obtain ⟨t, hstep⟩ := exists_step hrun hstall
    have hstored : ∀ x ∈ s.dataAccesses s.fetched.instr, x.kind = .store → t.readByte x.addr = x.value :=
      fun x hx hk => step_stored hstall hstep hx hk
    refine ⟨t, s.traceRecord s.fetched, hstep, step_trace hstall hstep, rfl, hstored, fun u hu => ?_⟩
    refine ⟨_, step_trace (s := { t with stall := 0 }) rfl hu, step_next_fetched hstep, fun x hx hk =>
      ⟨fun hpc => ?_, fun k hlen haddr => ?_⟩⟩
    · rw [← hstored x hx hk, hpc]
      exact decode_opcode _ _ _ _
    · rw [← hstored x hx hk, haddr]
      exact State.traceRecord_bytes_getElem? _ _ hlen
  · intro s hrun hstall hsta
    obtain ⟨t, hstep⟩ := exists_step hrun hstall
    obtain ⟨hpc, hbyte⟩ := step_sta hstall hstep hsta
    rw [← hpc] at hbyte
    refine ⟨t, hstep, hpc, hbyte, ?_⟩
    rintro b1 b2 rfl rfl u hu
    exact ⟨_, step_trace (s := { t with stall := 0 }) rfl hu, by rw [← hbyte]; exact step_next_fetched hstep⟩

/-! ## The accesses of each form (20_memory.md R57) -/

/-- The fetches of an instruction of at most three bytes are at pc, pc + 1 and pc + 2. -/
theorem State.fetchesOf_kind_addr (s : State) (n : Nat) (h : n ≤ 3) :
    (s.fetchesOf n).map (fun x => (x.kind, x.addr))
      = ([s.pc, s.pc + 1, s.pc + 2].take n).map (fun a => (AccessKind.fetch, a)) := by
  interval_cases n <;> simp [State.fetchesOf, List.range_succ]

/-- Settles O20, by the instruction: its access list is that of its operand, its address, the stack or its condition,
and a step adds the fetches and that list to the event history. -/
theorem accessWidthsPerInstruction : Obligations.AccessWidthsPerInstruction := by
  unfold Obligations.AccessWidthsPerInstruction
  constructor
  · intro s i hwf
    cases i
    case mov d o =>
      cases d <;> cases o
      case mem.mem => cases hwf -- the byte of MOV M,M is HLT
      all_goals simp [State.dataAccesses, Instr.form, Instr.cond, State.operandLoad, State.operandStore, Regs.hl]
    case add o | adc o | sub o | sbb o | ana o | xra o | ora o | cmp o | inr o | dcr o | mvi o _ =>
      cases o <;> simp [State.dataAccesses, Instr.form, Instr.cond, State.operandLoad, State.operandStore, Regs.hl]
    case push p | pop p =>
      cases p <;> simp [State.dataAccesses, Instr.form, Instr.cond, State.loadWordAt, storeWordAt]
    case lda | sta | shld | lhld | ldax | stax =>
      simp [State.dataAccesses, Instr.form, Instr.cond, State.indexAddr_eq, State.loadWordAt, storeWordAt]
    case call | ret | rst | xthl =>
      simp [State.dataAccesses, Instr.form, Instr.cond, State.loadWordAt, storeWordAt]
    case cnz | cz | cnc | cc | cpo | cpe | cp | cm | rnz | rz | rnc | rc | rpo | rpe | rp | rm =>
      simp only [State.dataAccesses, State.takenBy_eq, Instr.cond, Option.map_some]
      generalize conditionSeen s _ = taken
      cases taken <;> simp [Instr.form, storeWordAt, State.loadWordAt]
    all_goals simp [State.dataAccesses, Instr.form] -- no other form has a data access
  · intro s t _ hstall h
    rw [step_accesses hstall h, List.map_append, List.map_append, ← List.append_assoc, State.fetchesOf_kind_addr]
    exact decode_length_le _ _ _ _

end Sys2Proof.Machine
end

section
/-! SUPPORT. The decoder (30_encoding.md R79 to R85): no byte has two rows in a table, so a row that matches is the one
`decode` reads; which bytes match in both tables, and which in neither. -/

namespace Sys2Proof

/-! ## Looking up in a list where no two members match -/

section
variable {α : Type} {p : α → Bool} {l m : List α}

theorem find?_eq_some_of_pairwise (hl : l.Pairwise fun a b => ¬ (p a = true ∧ p b = true)) {a : α} (ha : a ∈ l)
    (hp : p a = true) : l.find? p = some a := by
  induction l with
  | nil => cases ha
  | cons b rest ih =>
    obtain ⟨hb, hrest⟩ := List.pairwise_cons.1 hl
    rcases List.mem_cons.1 ha with rfl | ha
    · exact List.find?_cons_of_pos hp
    · rw [List.find?_cons_of_neg fun hpb => hb a ha ⟨hpb, hp⟩]
      exact ih hrest ha

theorem find?_perm (hl : l.Pairwise fun a b => ¬ (p a = true ∧ p b = true)) (hperm : m.Perm l) :
    m.find? p = l.find? p := by
  have hm := (hperm.pairwise_iff fun h => mt And.symm h).2 hl
  cases h : l.find? p with
  | none => exact List.find?_eq_none.2 fun a ha => List.find?_eq_none.1 h a (hperm.mem_iff.1 ha)
  | some a =>
    exact find?_eq_some_of_pairwise hm (hperm.mem_iff.2 (List.mem_of_find?_eq_some h)) (List.find?_some h)

end

/-! ## A byte has one row at most (30_encoding.md R79, R82) -/

theorem ExactRow.opcode_of_matches {r : ExactRow} {x : Bool} {op : Byte} (h : r.matches x op = true) :
    r.opcode = op :=
  beq_iff_eq.1 (Bool.and_eq_true_iff.1 h).1

theorem exactTable_pairwise (x : Bool) (op : Byte) :
    exactTable.Pairwise (fun r q => ¬ (r.matches x op = true ∧ q.matches x op = true)) := by
  have hdistinct : exactTable.Pairwise (fun r q => r.opcode ≠ q.opcode) := by decide
  exact hdistinct.imp fun hne ⟨hr, hq⟩ =>
    hne ((ExactRow.opcode_of_matches hr).trans (ExactRow.opcode_of_matches hq).symm)

/-- Two families are disjoint when they ask for different values of a bit that both masks keep. -/
theorem FamilyRow.not_matches_both {f g : FamilyRow} (h : f.value &&& g.mask ≠ g.value &&& f.mask) (op : Byte) :
    ¬ (f.matches op = true ∧ g.matches op = true) := by
  rintro ⟨hf, hg⟩
  have hfv : op &&& f.mask = f.value := beq_iff_eq.1 hf
  have hgv : op &&& g.mask = g.value := beq_iff_eq.1 hg
  rw [← hfv, ← hgv, BitVec.and_assoc, BitVec.and_assoc, BitVec.and_comm f.mask] at h
  exact h rfl

theorem familyTable_pairwise :
    familyTable.Pairwise (fun f g => ∀ op : Byte, ¬ (f.matches op = true ∧ g.matches op = true)) := by
  have hbit : familyTable.Pairwise (fun f g => f.value &&& g.mask ≠ g.value &&& f.mask) := by decide
  exact hbit.imp FamilyRow.not_matches_both

/-! ## Forms (30_encoding.md R84, R89) -/

theorem Form.length_eq_three_iff (f : Form) :
    f.length = 3 ↔ f ∈ ([.jmp, .call, .jcc, .ccc, .lxi, .lda, .sta, .lhld, .shld] : List Form) := by
  cases f <;> decide

theorem Form.length_eq_two_iff (f : Form) : f.length = 2 ↔ f ∈
    ([.mviR, .mviM, .adi, .aci, .sui, .sbi, .ani, .xri, .ori, .cpi, .inp, .out] : List Form) := by
  cases f <;> decide

theorem Instr.form_unrecognized_iff (i : Instr) : i.form = .unrecognized ↔ ∃ op, i = .unrecognized op := by
  cases i
  case unrecognized op => exact ⟨fun _ => ⟨op, rfl⟩, fun _ => rfl⟩
  case push p | pop p => cases p <;> simp [Instr.form]
  case add o | adc o | sub o | sbb o | ana o | xra o | ora o | cmp o | inr o | dcr o | mvi o _ =>
    cases o <;> simp [Instr.form]
  case mov d o => cases d <;> cases o <;> simp [Instr.form]
  all_goals simp [Instr.form]

/-! ## What each stage answers -/

section
variable {x : Bool} {b0 : Byte} (b1 b2 : Byte)

theorem decode_exact {r : ExactRow} (hr : r ∈ exactTable) (hm : r.matches x b0 = true) :
    decode x b0 b1 b2 = recordOf b0 b1 b2 .exact (r.build b1 b2) := by
  unfold decode
  rw [find?_eq_some_of_pairwise (exactTable_pairwise x b0) hr hm]

theorem decode_family {f : FamilyRow} (hno : exactTable.any (fun r => r.matches x b0) = false)
    (hf : f ∈ familyTable) (hm : f.matches b0 = true) :
    decode x b0 b1 b2 = recordOf b0 b1 b2 (.masked f.family) (f.build b0 b1 b2) := by
  unfold decode
  rw [List.find?_eq_none.2 (by simpa using hno),
    find?_eq_some_of_pairwise (familyTable_pairwise.imp fun h => h b0) hf hm]

theorem decode_unmatched (hno : exactTable.any (fun r => r.matches x b0) = false)
    (hnofam : familyTable.any (fun f => f.matches b0) = false) :
    decode x b0 b1 b2 = recordOf b0 b1 b2 .unmatched (.unrecognized b0) := by
  unfold decode
  rw [List.find?_eq_none.2 (by simpa using hno), List.find?_eq_none.2 (by simpa using hnofam)]

end

section
variable (x : Bool) (b0 b1 b2 : Byte)

/-- A decoded record is the record of its instruction at its stage (30_encoding.md R72). -/
theorem decode_eq_recordOf :
    decode x b0 b1 b2 = recordOf b0 b1 b2 (decode x b0 b1 b2).stage (decode x b0 b1 b2).instr := by
  rcases decode_cases x b0 b1 b2 with ⟨r, -, -, h⟩ | ⟨-, f, -, -, h⟩ | ⟨-, -, h⟩ <;> rw [h] <;> rfl

theorem decode_imm8 :
    (decode x b0 b1 b2).imm8 = if (decode x b0 b1 b2).length = 2 then some b1 else none := by
  rw [decode_eq_recordOf]
  rfl

theorem decode_imm16 :
    (decode x b0 b1 b2).imm16 = if (decode x b0 b1 b2).length = 3 then some (cat16 b2 b1) else none := by
  rw [decode_eq_recordOf]
  rfl

theorem decode_length_pos : 1 ≤ (decode x b0 b1 b2).length := by
  rw [decode_length, ← encode_length]
  exact Nat.succ_pos _

theorem decode_form : (decode x b0 b1 b2).form = (decode x b0 b1 b2).instr.form :=
  congrArg DecodedInstruction.form (decode_eq_recordOf x b0 b1 b2)

/-! ## The bytes of both tables (30_encoding.md R80, R96) -/

theorem familyTable_matches_exact_iff : ∀ r ∈ exactTable, ∀ f ∈ familyTable, f.matches r.opcode = true ↔
    (r.opcode = 0x76 ∧ f.family = .mov) ∨ (r.opcode = 0xBE ∧ f.family = .cmp) := by decide

theorem decode_hlt : decode x 0x76 b1 b2 = recordOf 0x76 b1 b2 .exact .hlt :=
  decode_exact (r := { opcode := 0x76, extra := false, build := fun _ _ => .hlt }) b1 b2 (by simp [exactTable])
    (by simp [ExactRow.matches])

theorem decode_cmpM : decode x 0xBE b1 b2 = recordOf 0xBE b1 b2 .exact (.cmp .mem) :=
  decode_exact (r := { opcode := 0xBE, extra := false, build := fun _ _ => .cmp .mem }) b1 b2 (by simp [exactTable])
    (by simp [ExactRow.matches])

/-- The family of HLT's byte would build the term that is no instruction. -/
theorem familyTable_build_hlt : ∀ f ∈ familyTable, f.matches 0x76 = true → f.build 0x76 b1 b2 = .mov .mem .mem := by
  simp [familyTable, FamilyRow.matches, dddOf, sssOf, Operand.ofCode]

theorem familyTable_build_cmpM : ∀ f ∈ familyTable, f.matches 0xBE = true → f.build 0xBE b1 b2 = .cmp .mem := by
  simp [familyTable, FamilyRow.matches, sssOf, Operand.ofCode]

/-- A family that builds an instruction of the hardware is what the decoder reads, at whatever stage: stage 1 wins at
two bytes, where the one family builds the same instruction and the other none. -/
theorem decode_instr_of_family {f : FamilyRow} (hf : f ∈ familyTable) (hm : f.matches b0 = true)
    (hw : (f.build b0 b1 b2).wf x = true) : (decode x b0 b1 b2).instr = f.build b0 b1 b2 := by
  rcases decode_cases x b0 b1 b2 with ⟨r, hr, hrm, -⟩ | ⟨hno, -⟩ | ⟨-, hnofam, -⟩
  · obtain rfl := ExactRow.opcode_of_matches hrm
    rcases (familyTable_matches_exact_iff r hr f hf).1 hm with ⟨hop, -⟩ | ⟨hop, -⟩ <;> rw [hop] at hm hw ⊢
    · rw [familyTable_build_hlt b1 b2 f hf hm] at hw
      cases hw
    · rw [familyTable_build_cmpM b1 b2 f hf hm, decode_cmpM]
      rfl
  · rw [decode_family b1 b2 hno hf hm]
    rfl
  · exact absurd hm (List.any_eq_false.1 hnofam f hf)

/-! ## The bytes of neither table (30_encoding.md R84, R85) -/

theorem mem_unrecognizedBytes_iff (op : Byte) : op ∈ unrecognizedBytes x ↔
    op ∈ ([0x08, 0x10, 0x18, 0x20, 0x28, 0x30, 0x38, 0xCB, 0xD9, 0xDD, 0xED, 0xFD] : List Byte)
      ∨ (x = false ∧ op ∈ ([0x27, 0xD3, 0xDB, 0xF9] : List Byte)) := by
  cases x <;> simp [unrecognizedBytes, or_assoc]

theorem unmatched_of_unrecognizedBytes : ∀ (x : Bool), ∀ op ∈ unrecognizedBytes x,
    exactTable.any (fun r => r.matches x op) = false ∧ familyTable.any (fun f => f.matches op) = false := by decide

theorem decode_of_unrecognizedBytes (h : b0 ∈ unrecognizedBytes x) :
    decode x b0 b1 b2 = recordOf b0 b1 b2 .unmatched (.unrecognized b0) := by
  obtain ⟨hno, hnofam⟩ := unmatched_of_unrecognizedBytes x b0 h
  exact decode_unmatched b1 b2 hno hnofam

theorem decode_stage_unmatched_iff : (decode x b0 b1 b2).stage = .unmatched ↔ b0 ∈ unrecognizedBytes x := by
  constructor
  · intro h
    have hw := decode_wf x b0 b1 b2
    rw [(decode_unmatched_iff x b0 b1 b2 b0).2 ⟨h, rfl⟩] at hw
    exact List.contains_iff_mem.1 hw
  · intro h
    rw [decode_of_unrecognizedBytes x b0 b1 b2 h]
    rfl

theorem decode_form_unrecognized_iff :
    (decode x b0 b1 b2).form = .unrecognized ↔ (decode x b0 b1 b2).stage = .unmatched := by
  rw [decode_form, Instr.form_unrecognized_iff]
  simp [decode_unmatched_iff]

/-- The entries that need `DECODE_EXTRA` are those of the four bytes of R85. -/
theorem exactTable_extra : ∀ r ∈ exactTable, r.extra = true → r.opcode ∈ ([0x27, 0xD3, 0xDB, 0xF9] : List Byte) := by
  decide

/-- Every byte of R85 has an entry with `DECODE_EXTRA`. -/
theorem exactTable_matches_extra : ∀ op ∈ ([0x27, 0xD3, 0xDB, 0xF9] : List Byte),
    ∃ r ∈ exactTable, r.matches true op = true := by decide

theorem exactTable_matches_without_extra {r : ExactRow} (hr : r ∈ exactTable)
    (h : b0 ∉ ([0x27, 0xD3, 0xDB, 0xF9] : List Byte)) : r.matches false b0 = r.matches true b0 := by
  by_cases hop : r.opcode = b0
  · have hextra : r.extra = false := Bool.eq_false_of_not_eq_true fun he => h (hop ▸ exactTable_extra r hr he)
    simp [ExactRow.matches, hextra]
  · simp [ExactRow.matches, hop]

/-- `DECODE_EXTRA` decides the four bytes of R85 and nothing else. -/
theorem decode_without_extra (h : b0 ∉ ([0x27, 0xD3, 0xDB, 0xF9] : List Byte)) :
    decode false b0 b1 b2 = decode true b0 b1 b2 := by
  unfold decode
  rw [List.find?_congr fun r hr => exactTable_matches_without_extra b0 hr h]

end

end Sys2Proof
end

section
/-! SUPPORT. Decode of encode (30_encoding.md R70 to R90): the selector codes and the fields of an opcode byte read
back, and the row that reads each instruction's encoding. -/

namespace Sys2Proof

/-! ## Selector codes read back (30_encoding.md R77, R78, R86) -/

@[simp] theorem Operand.ofCode_code (o : Operand) : Operand.ofCode o.code = o := by
  cases o with
  | reg r => cases r <;> rfl
  | mem => rfl

@[simp] theorem Pair.ofCode_code (p : Pair) : Pair.ofCode p.code = p := by cases p <;> rfl

@[simp] theorem StackPair.ofCode_code (p : StackPair) : StackPair.ofCode p.code = p := by cases p <;> rfl

@[simp] theorem Cond.ofCode_code (cc : Cond) : Cond.ofCode cc.code = cc := by cases cc <;> rfl

/-! ## A field of the opcode byte read back (30_encoding.md R71)

A field has no bit in the masks of its families (R81), and stands where its selector is read. -/

section
variable (c : BitVec 3) (p : BitVec 2)

@[simp] theorem fieldAt_three_and_C7 : fieldAt c 3 &&& 0xC7#8 = 0#8 := by
  revert c
  decide

@[simp] theorem fieldAt_three_and_C0 : fieldAt c 3 &&& 0xC0#8 = 0#8 := by
  revert c
  decide

@[simp] theorem fieldAt_zero_and_F8 : fieldAt c 0 &&& 0xF8#8 = 0#8 := by
  revert c
  decide

@[simp] theorem fieldAt_zero_and_C0 : fieldAt c 0 &&& 0xC0#8 = 0#8 := by
  revert c
  decide

@[simp] theorem fieldAt_four_and_CF : fieldAt p 4 &&& 0xCF#8 = 0#8 := by
  revert p
  decide

@[simp] theorem fieldAt_three_extract_three : (fieldAt c 3).extractLsb' 3 3 = c := by
  revert c
  decide

@[simp] theorem fieldAt_three_extract_zero : (fieldAt c 3).extractLsb' 0 3 = 0#3 := by
  revert c
  decide

@[simp] theorem fieldAt_zero_extract_zero : (fieldAt c 0).extractLsb' 0 3 = c := by
  revert c
  decide

@[simp] theorem fieldAt_zero_extract_three : (fieldAt c 0).extractLsb' 3 3 = 0#3 := by
  revert c
  decide

@[simp] theorem fieldAt_four_extract_four : (fieldAt p 4).extractLsb' 4 2 = p := by
  revert p
  decide

end

/-! ## The row that reads an encoding -/

/-- Stage 1 has an entry that reads `i` from these bytes. -/
def ReadByEntry (x : Bool) (b0 b1 b2 : Byte) (i : Instr) : Prop :=
  ∃ r ∈ exactTable, r.matches x b0 = true ∧ r.build b1 b2 = i

/-- Stage 2 has a family that reads `i` from these bytes. -/
def ReadByFamily (b0 b1 b2 : Byte) (i : Instr) : Prop :=
  ∃ f ∈ familyTable, f.matches b0 = true ∧ f.build b0 b1 b2 = i

/-- The entry of an opcode byte, where the switch admits it. -/
theorem readByEntry_of_find? {x : Bool} {b0 b1 b2 : Byte} {r : ExactRow} {i : Instr}
    (h : exactTable.find? (fun r => r.opcode == b0) = some r) (hx : (x || !r.extra) = true)
    (hi : r.build b1 b2 = i) : ReadByEntry x b0 b1 b2 i := by
  have hop : (r.opcode == b0) = true := List.find?_some (p := fun r : ExactRow => r.opcode == b0) h
  exact ⟨r, List.mem_of_find?_eq_some h, Bool.and_eq_true_iff.2 ⟨hop, hx⟩, hi⟩

/-! The family of each form with a field: simp goes through the table, where the field leaves the family's mask and
value alone and its selector reads back. -/

section
variable (b1 b2 : Byte)

theorem jumpOn_readByFamily (cc : Cond) :
    ReadByFamily (0xC2 ||| fieldAt cc.code 3) b1 b2 (Instr.jumpOn (cat16 b2 b1) cc) := by
  simp [ReadByFamily, familyTable, FamilyRow.matches, BitVec.and_or_distrib_right, BitVec.extractLsb'_or, cccOf]

theorem callOn_readByFamily (cc : Cond) :
    ReadByFamily (0xC4 ||| fieldAt cc.code 3) b1 b2 (Instr.callOn (cat16 b2 b1) cc) := by
  simp [ReadByFamily, familyTable, FamilyRow.matches, BitVec.and_or_distrib_right, BitVec.extractLsb'_or, cccOf]

theorem returnOn_readByFamily (cc : Cond) :
    ReadByFamily (0xC0 ||| fieldAt cc.code 3) b1 b2 (Instr.returnOn cc) := by
  simp [ReadByFamily, familyTable, FamilyRow.matches, BitVec.and_or_distrib_right, BitVec.extractLsb'_or, cccOf]

theorem rst_readByFamily (n : BitVec 3) : ReadByFamily (Instr.rst n).opcode b1 b2 (.rst n) := by
  simp [ReadByFamily, familyTable, FamilyRow.matches, BitVec.and_or_distrib_right, BitVec.extractLsb'_or,
    Instr.opcode, nnnOf]

theorem source_readByFamily (o : Operand) :
    ∀ build ∈ ([.add, .adc, .sub, .sbb, .ana, .xra, .ora, .cmp] : List (Operand → Instr)),
      ReadByFamily (build o).opcode b1 b2 (build o) := by
  simp [ReadByFamily, familyTable, FamilyRow.matches, BitVec.and_or_distrib_right, BitVec.extractLsb'_or,
    Instr.opcode, sssOf]

theorem destination_readByFamily (o : Operand) : ∀ build ∈ ([.inr, .dcr, (.mvi · b1)] : List (Operand → Instr)),
    ReadByFamily (build o).opcode b1 b2 (build o) := by
  simp [ReadByFamily, familyTable, FamilyRow.matches, BitVec.and_or_distrib_right, BitVec.extractLsb'_or,
    Instr.opcode, dddOf]

theorem mov_readByFamily (d o : Operand) : ReadByFamily (Instr.mov d o).opcode b1 b2 (.mov d o) := by
  simp [ReadByFamily, familyTable, FamilyRow.matches, BitVec.and_or_distrib_right, BitVec.extractLsb'_or,
    Instr.opcode, dddOf, sssOf]

theorem pair_readByFamily (p : Pair) :
    ∀ build ∈ ([.dad, .inx, .dcx, (.lxi · (cat16 b2 b1))] : List (Pair → Instr)),
      ReadByFamily (build p).opcode b1 b2 (build p) := by
  simp [ReadByFamily, familyTable, FamilyRow.matches, BitVec.and_or_distrib_right, BitVec.extractLsb'_or,
    Instr.opcode, rpOf]

theorem stackPair_readByFamily (p : StackPair) : ∀ build ∈ ([.push, .pop] : List (StackPair → Instr)),
    ReadByFamily (build p).opcode b1 b2 (build p) := by
  simp [ReadByFamily, familyTable, FamilyRow.matches, BitVec.and_or_distrib_right, BitVec.extractLsb'_or,
    Instr.opcode, stackRpOf]

theorem indexPair_readByFamily (p : IndexPair) : ∀ build ∈ ([.ldax, .stax] : List (IndexPair → Instr)),
    ReadByFamily (build p).opcode b1 b2 (build p) := by
  cases p <;> simp [ReadByFamily, familyTable, FamilyRow.matches, Instr.opcode, fieldAt, IndexPair.code, indexRpOf,
    IndexPair.ofBit]

end

section
variable {x : Bool} {b0 b1 b2 : Byte} {i : Instr}

theorem eq_of_byte_prefix {v : Byte} (h : [v] <+: [b1, b2]) : v = b1 := (List.cons_prefix_cons.1 h).1

/-- A 16-bit immediate stands low byte first (30_encoding.md R76). -/
theorem eq_of_word_prefix {v : Word} (h : [lo v, hi v] <+: [b1, b2]) : v = cat16 b2 b1 := by
  obtain ⟨rfl, hhi⟩ := List.cons_prefix_cons.1 h
  obtain ⟨rfl, -⟩ := List.cons_prefix_cons.1 hhi
  rw [cat16_hi_lo]

/-- Every instruction of the hardware is read back from its encoding by an entry or a family, or is an unrecognized
byte. -/
theorem readBy_of_encode_prefix (hw : i.wf x = true) (hp : encode i <+: [b0, b1, b2]) :
    ReadByEntry x b0 b1 b2 i ∨ ReadByFamily b0 b1 b2 i ∨ (i = .unrecognized b0 ∧ b0 ∈ unrecognizedBytes x) := by
  obtain ⟨rfl, hoperands⟩ := List.cons_prefix_cons.1 hp
  cases i
  case unrecognized op => exact .inr (.inr ⟨rfl, List.contains_iff_mem.1 hw⟩)
  case nop | hlt | ei | di | ret | pchl | xthl | xchg | rlc | rrc | ral | rar | cma | stc | cmc =>
    exact .inl (readByEntry_of_find? rfl (Bool.or_true x) rfl)
  case adi | aci | sui | sbi | ani | xri | ori | cpi =>
    obtain rfl := eq_of_byte_prefix hoperands
    exact .inl (readByEntry_of_find? rfl (Bool.or_true x) rfl)
  case jmp | call | lda | sta | lhld | shld =>
    obtain rfl := eq_of_word_prefix hoperands
    exact .inl (readByEntry_of_find? rfl (Bool.or_true x) rfl)
  case daa | sphl =>
    obtain rfl : x = true := hw
    exact .inl (readByEntry_of_find? rfl rfl rfl)
  case inp | out =>
    obtain rfl : x = true := hw
    obtain rfl := eq_of_byte_prefix hoperands
    exact .inl (readByEntry_of_find? rfl rfl rfl)
  case jnz | jz | jnc | jc | jpo | jpe | jp | jm =>
    obtain rfl := eq_of_word_prefix hoperands
    exact .inr (.inl (jumpOn_readByFamily b1 b2 _))
  case cnz | cz | cnc | cc | cpo | cpe | cp | cm =>
    obtain rfl := eq_of_word_prefix hoperands
    exact .inr (.inl (callOn_readByFamily b1 b2 _))
  case rnz | rz | rnc | rc | rpo | rpe | rp | rm => exact .inr (.inl (returnOn_readByFamily b1 b2 _))
  case rst n => exact .inr (.inl (rst_readByFamily b1 b2 n))
  case add o | adc o | sub o | sbb o | ana o | xra o | ora o | cmp o =>
    exact .inr (.inl (source_readByFamily b1 b2 o _ (by simp)))
  case inr o | dcr o => exact .inr (.inl (destination_readByFamily b1 b2 o _ (by simp)))
  case mvi o v =>
    obtain rfl := eq_of_byte_prefix hoperands
    exact .inr (.inl (destination_readByFamily v b2 o (.mvi · v) (by simp)))
  case mov d o => exact .inr (.inl (mov_readByFamily b1 b2 d o))
  case dad p | inx p | dcx p => exact .inr (.inl (pair_readByFamily b1 b2 p _ (by simp)))
  case lxi p v =>
    obtain rfl := eq_of_word_prefix hoperands
    exact .inr (.inl (pair_readByFamily b1 b2 p (.lxi · (cat16 b2 b1)) (by simp)))
  case push p | pop p => exact .inr (.inl (stackPair_readByFamily b1 b2 p _ (by simp)))
  case ldax p | stax p => exact .inr (.inl (indexPair_readByFamily b1 b2 p _ (by simp)))

theorem decode_instr_of_encode_prefix (hw : i.wf x = true) (hp : encode i <+: [b0, b1, b2]) :
    (decode x b0 b1 b2).instr = i := by
  rcases readBy_of_encode_prefix hw hp with ⟨r, hr, hm, rfl⟩ | ⟨f, hf, hm, rfl⟩ | ⟨rfl, hop⟩
  · rw [decode_exact b1 b2 hr hm]
    rfl
  · exact decode_instr_of_family x b0 b1 b2 hf hm hw
  · rw [decode_of_unrecognizedBytes x b0 b1 b2 hop]
    rfl

end

end Sys2Proof
end

section
/-! SUPPORT. The statements on the decoder (30_encoding.md), each put together from the facts above. -/

namespace Sys2Proof

/-- Settles O2, by the row that reads the encoding back. -/
theorem decodeOfEncodeIsTheInstruction : Obligations.DecodeOfEncodeIsTheInstruction := by
  unfold Obligations.DecodeOfEncodeIsTheInstruction
  intro x i hw b0 b1 b2 hp
  have hinstr := decode_instr_of_encode_prefix hw hp
  exact ⟨hinstr, by rw [decode_length, hinstr, encode_length]⟩

/-- Settles O3, from what the decoder can answer. -/
theorem decodedBytesAreTheEncoding : Obligations.DecodedBytesAreTheEncoding := by
  unfold Obligations.DecodedBytesAreTheEncoding
  intro x b0 b1 b2 d
  have hpos : 1 ≤ d.length := decode_length_pos x b0 b1 b2
  have hle : d.length ≤ 3 := decode_length_le x b0 b1 b2
  refine ⟨decode_wf x b0 b1 b2, encode_decode x b0 b1 b2, ?_, decode_opcode x b0 b1 b2, decode_imm8 x b0 b1 b2,
    decode_imm16 x b0 b1 b2⟩
  simp only [List.mem_cons, List.not_mem_nil, or_false]
  omega

/-- Settles O4: any two families differ in a bit both masks keep, so a permuted table finds the same row. -/
theorem maskedFamiliesAreDisjoint : Obligations.MaskedFamiliesAreDisjoint := by
  unfold Obligations.MaskedFamiliesAreDisjoint
  refine ⟨rfl, familyTable_pairwise, fun table hperm op => ?_, fun r hr f hf hm => ?_⟩
  · rw [find?_perm (familyTable_pairwise.imp fun h => h op) hperm]
  · exact ((familyTable_matches_exact_iff r hr f hf).1 hm).imp And.left And.left

/-- Settles O5, from the row stage 1 reads and the two bytes of both tables. -/
theorem exactTableTakesPrecedence : Obligations.ExactTableTakesPrecedence := by
  unfold Obligations.ExactTableTakesPrecedence
  refine ⟨fun x r b1 b2 hr hm => ?_, familyTable_matches_exact_iff,
    fun f hf b1 b2 hm => familyTable_build_cmpM b1 b2 f hf hm, fun x b1 b2 => ?_⟩
  · rw [decode_exact b1 b2 hr hm]
    exact ⟨rfl, rfl⟩
  · rw [decode_hlt, decode_cmpM]
    exact ⟨rfl, rfl, rfl, rfl, rfl, rfl⟩

/-- Settles O6, from the bytes no table matches and the entries that need `DECODE_EXTRA`. -/
theorem unrecognizedBytesAreTwelveOrSixteen : Obligations.UnrecognizedBytesAreTwelveOrSixteen := by
  unfold Obligations.UnrecognizedBytesAreTwelveOrSixteen
  refine ⟨fun x b0 b1 b2 => ⟨?_, (decode_form_unrecognized_iff x b0 b1 b2).symm, fun h => ?_⟩,
    fun b0 b1 b2 => ⟨fun hextra => ?_, decode_without_extra b0 b1 b2⟩⟩
  · rw [decode_stage_unmatched_iff, mem_unrecognizedBytes_iff]
  · rw [decode_of_unrecognizedBytes x b0 b1 b2 ((decode_stage_unmatched_iff x b0 b1 b2).1 h)]
    exact ⟨rfl, rfl, rfl, rfl, rfl⟩
  · constructor
    · obtain ⟨r, hr, hm⟩ := exactTable_matches_extra b0 hextra
      rw [decode_exact b1 b2 hr hm]
      rfl
    · have hfalse := (mem_unrecognizedBytes_iff false b0).2 (.inr ⟨rfl, hextra⟩)
      simpa using (unmatched_of_unrecognizedBytes false b0 hfalse).2

/-- Settles O1: the decoder evaluated on each sequence. -/
theorem specWordsDecode : Obligations.SpecWordsDecode := by
  unfold Obligations.SpecWordsDecode
  decide

/-- Settles O7, from the lengths of the forms. -/
theorem lengthIsDeterminedByForm : Obligations.LengthIsDeterminedByForm := by
  unfold Obligations.LengthIsDeterminedByForm
  intro x b0 b1 b2 d
  have hlen : d.length = d.form.length := by
    rw [decode_length, decode_form]
    rfl
  have hpos : 1 ≤ d.length := decode_length_pos x b0 b1 b2
  have hle : d.length ≤ 3 := decode_length_le x b0 b1 b2
  refine ⟨?_, ?_, by omega⟩
  · rw [hlen, Form.length_eq_three_iff]
  · rw [hlen, Form.length_eq_two_iff]

end Sys2Proof
end

section
/-! SUPPORT. The step of a decoded instruction (40_execution_engine.md R110). -/

namespace Sys2Proof.Machine

theorem step_of_exec {s t : State} (hrun : s.halted = false) (hstall : s.stall = 0)
    (h : exec s.fetched.instr s = .next t) : step s = .next (s.retire s.fetched t) := by
  simp [step, hrun, hstall, State.runInstruction, h]

theorem State.fetched_form (s : State) : s.fetched.form = s.fetched.instr.form := decode_form _ _ _ _

/-- Settles O12: the step retires what `exec` answered. -/
theorem stepRunsTheDecodedInstruction : Obligations.StepRunsTheDecodedInstruction := by
  unfold Obligations.StepRunsTheDecodedInstruction
  intro s t i hrun hstall hdecode h
  have hi : s.fetched.instr = i := hdecode
  refine ⟨s.retire s.fetched t, step_of_exec hrun hstall (by rw [hi, h]), ?_, ⟨s.traceRecord s.fetched, rfl, rfl, hi⟩,
    rfl⟩
  rw [State.retire_stall, State.fetched_form, State.takenBy_eq, hi]
  cases i.cond <;> rfl

end Sys2Proof.Machine
end

section
/-! SUPPORT. An instruction's encoding is its bytes and the stage that resolves its opcode byte; and what an ALU result
into A leaves unchanged. -/

namespace Sys2Proof.Machine

/-! ## Encodings -/

/-- The stage that resolves an instruction is decided by its opcode byte (30_encoding.md R79, R81). -/
theorem decode_stage_eq (x : Bool) (b0 b1 b2 : Byte) : (decode x b0 b1 b2).stage = (decode x b0 0 0).stage := by
  unfold decode
  cases exactTable.find? (fun r => r.matches x b0) with
  | some r => rfl
  | none => cases familyTable.find? (fun f => f.matches b0) <;> rfl

/-- An instruction is encoded by its bytes, at the stage of its opcode byte (30_encoding.md R73, R90). -/
theorem EncodedAs.of_stage {i : Instr} {bytes : List Byte} {st : Stage} (hbytes : encode i = bytes)
    (hst : ∀ x, i.wf x = true → (decode x i.opcode 0 0).stage = st) : EncodedAs i bytes st := by
  subst hbytes
  intro x b0 b1 b2 hw hp
  have hinstr := decode_instr_of_encode_prefix hw hp
  obtain ⟨rfl, -⟩ := List.cons_prefix_cons.1 hp
  exact ⟨hinstr, (decode_stage_eq x _ b1 b2).trans (hst x hw), by rw [decode_length, hinstr, encode_length]⟩

/-- The families with a source operand (30_encoding.md R81), but CMP, whose M form is an entry (R96). -/
theorem source_encodedAs (src : Operand) :
    ∀ row ∈ ([(.add, 0x80, .add), (.adc, 0x88, .adc), (.sub, 0x90, .sub), (.sbb, 0x98, .sbb), (.ana, 0xA0, .ana),
        (.xra, 0xA8, .xra), (.ora, 0xB0, .ora)] : List ((Operand → Instr) × Byte × Family)),
      EncodedAs (row.1 src) [row.2.1 + selector src] (.masked row.2.2) := by
  intro row hrow
  fin_cases hrow <;> (rcases src with (_ | _ | _ | _ | _ | _ | _) | _) <;>
    exact .of_stage rfl fun x _ => by cases x <;> rfl

/-- The entries with an immediate byte for A (30_encoding.md R79). -/
theorem immediate_encodedAs (imm : Byte) :
    ∀ row ∈ ([(.adi, 0xC6), (.aci, 0xCE), (.sui, 0xD6), (.sbi, 0xDE), (.ani, 0xE6), (.xri, 0xEE), (.ori, 0xF6),
        (.cpi, 0xFE)] : List ((Byte → Instr) × Byte)), EncodedAs (row.1 imm) [row.2, imm] .exact := by
  intro row hrow
  fin_cases hrow <;> exact .of_stage rfl fun x _ => by cases x <;> rfl

/-! ## An ALU result into A (40_execution_engine.md R115 to R117) -/

section
variable (s : State)

/-- A register written, and nothing else of the register file. -/
theorem keepsRegsBut_of_set {t : State} {r : Reg} {v : Byte} (h : t.regs = s.regs.set r v) : KeepsRegsBut s t [r] :=
  fun q hq => by rw [h, Regs.get_set_other _ _ _ _ (by simpa using hq)]

@[simp] theorem State.flagsRead_zero : s.flagsRead 0 = s := by
  cases hm : s.params.flagModel <;> simp [State.flagsRead, hm]

/-! Reading flags takes draws alone, so what is written after it is written over `s` (40_execution_engine.md R119). -/

theorem FlagsBecome.of_flagsRead {s t : State} {k : Nat} {P : Flags → Prop} (h : FlagsBecome (s.flagsRead k) t P) :
    FlagsBecome s t P := h

theorem Frame.of_flagsRead {s t : State} {k : Nat} {written : List Reg} {stored : List Word}
    (h : Frame (s.flagsRead k) t written stored) : Frame s t written stored := h

variable (r : AluResult) (n : Word)

theorem accumulate_flagsBecome {P : Flags → Prop} (h : P r.flags) : FlagsBecome s (s.accumulate r n) P := by
  refine ⟨fun hm => ?_, (s.setReg .a r.value).setFlags_flags_unmodelled r.flags⟩
  have hflags : (s.accumulate r n).flags = r.flags := (s.setReg .a r.value).setFlags_flags_intel r.flags hm
  rwa [hflags]

theorem accumulate_frame : Frame s (s.accumulate r n) [.a] [] :=
  ⟨keepsRegsBut_of_set s rfl, fun _ _ => rfl, (keepsControl_iff _ _).2 rfl⟩

end

end Sys2Proof.Machine
end

section
/-! SUPPORT. The forms of 8-bit arithmetic and logic that write A (45_alu.md R200 to R220): each reads the flags it
needs and its operand, and puts one ALU result into A. -/

namespace Sys2Proof.Machine

/-! ## Logic results (40_execution_engine.md R117) -/

/-- `r` is a logic result: each bit the operation `op` of the operands' bits, CY clear, AC as given. -/
def IsLogicResult (r : AluResult) (a b : Byte) (op : Bool → Bool → Bool) (ac : Bool) : Prop :=
  (∀ k, r.value.getLsbD k = op (a.getLsbD k) (b.getLsbD k))
    ∧ r.flags.cy = false ∧ r.flags.ac = ac ∧ SzpSeen r.flags r.value

theorem and8_isLogicResult (a b : Byte) : IsLogicResult (and8 a b) a b and (a.getLsbD 3 || b.getLsbD 3) :=
  ⟨fun _ => BitVec.getLsbD_and, rfl, BitVec.getLsbD_or, szpSeen_intro _ _ rfl rfl rfl⟩

theorem xor8_isLogicResult (a b : Byte) : IsLogicResult (xor8 a b) a b xor false :=
  ⟨fun _ => BitVec.getLsbD_xor, rfl, rfl, szpSeen_intro _ _ rfl rfl rfl⟩

theorem or8_isLogicResult (a b : Byte) : IsLogicResult (or8 a b) a b or false :=
  ⟨fun _ => BitVec.getLsbD_or, rfl, rfl, szpSeen_intro _ _ rfl rfl rfl⟩

/-! ## The statements -/

/-- Settles O46: each form puts the sum of A, its operand and the carry it reads into A. -/
theorem addFormsAddIntoA : Obligations.AddFormsAddIntoA := by
  unfold Obligations.AddFormsAddIntoA
  refine ⟨fun src => ⟨?_, ?_⟩, fun imm => ⟨?_, ?_⟩, fun s src imm v cin i len n hform => ?_⟩
  · exact source_encodedAs src (.add, 0x80, .add) (by simp)
  · exact source_encodedAs src (.adc, 0x88, .adc) (by simp)
  · exact immediate_encodedAs imm (.adi, 0xC6) (by simp)
  · exact immediate_encodedAs imm (.aci, 0xCE) (by simp)
  · have hexec : exec i s = .next ((s.flagsRead n).accumulate (add8 s.regs.a v cin) len) := by
      simp only [List.mem_cons, Prod.mk.injEq, List.not_mem_nil, or_false, ← s.operand_eq, ← s.carry_eq] at hform
      rcases hform with ⟨rfl, rfl, rfl, rfl, rfl⟩ | ⟨rfl, rfl, rfl, rfl, rfl⟩ | ⟨rfl, rfl, rfl, rfl, rfl⟩ |
        ⟨rfl, rfl, rfl, rfl, rfl⟩
      case inl | inr.inr.inl => rw [s.flagsRead_zero]; rfl
      case inr.inl | inr.inr.inr => rfl
    exact ⟨_, hexec, add8_isSum _ _ _, .of_flagsRead (accumulate_flagsBecome _ _ _ (add8_sumFlags _ _ _)), rfl, rfl,
      s.flagsRead_drawsFlags n, .of_flagsRead (accumulate_frame _ _ _)⟩

/-- Settles O47: each form puts the difference of A, its operand and the borrow it reads into A. -/
theorem subtractFormsSubtractFromA : Obligations.SubtractFormsSubtractFromA := by
  unfold Obligations.SubtractFormsSubtractFromA
  refine ⟨fun src => ⟨?_, ?_⟩, fun imm => ⟨?_, ?_⟩, fun s src imm v bin i len n hform => ?_⟩
  · exact source_encodedAs src (.sub, 0x90, .sub) (by simp)
  · exact source_encodedAs src (.sbb, 0x98, .sbb) (by simp)
  · exact immediate_encodedAs imm (.sui, 0xD6) (by simp)
  · exact immediate_encodedAs imm (.sbi, 0xDE) (by simp)
  · have hexec : exec i s = .next ((s.flagsRead n).accumulate (sub8 s.regs.a v bin) len) := by
      simp only [List.mem_cons, Prod.mk.injEq, List.not_mem_nil, or_false, ← s.operand_eq, ← s.carry_eq] at hform
      rcases hform with ⟨rfl, rfl, rfl, rfl, rfl⟩ | ⟨rfl, rfl, rfl, rfl, rfl⟩ | ⟨rfl, rfl, rfl, rfl, rfl⟩ |
        ⟨rfl, rfl, rfl, rfl, rfl⟩
      case inl | inr.inr.inl => rw [s.flagsRead_zero]; rfl
      case inr.inl | inr.inr.inr => rfl
    exact ⟨_, hexec, sub8_isDifference _ _ _,
      .of_flagsRead (accumulate_flagsBecome _ _ _ (sub8_differenceFlags _ _ _)), rfl, rfl, s.flagsRead_drawsFlags n,
      .of_flagsRead (accumulate_frame _ _ _)⟩

/-- Settles O49: each form puts a logic result of A and its operand into A. -/
theorem logicFormsIntoA : Obligations.LogicFormsIntoA := by
  unfold Obligations.LogicFormsIntoA
  refine ⟨fun src => ⟨?_, ?_, ?_⟩, fun imm => ⟨?_, ?_, ?_⟩, fun s src imm v i len op ac hform => ?_⟩
  · exact source_encodedAs src (.ana, 0xA0, .ana) (by simp)
  · exact source_encodedAs src (.xra, 0xA8, .xra) (by simp)
  · exact source_encodedAs src (.ora, 0xB0, .ora) (by simp)
  · exact immediate_encodedAs imm (.ani, 0xE6) (by simp)
  · exact immediate_encodedAs imm (.xri, 0xEE) (by simp)
  · exact immediate_encodedAs imm (.ori, 0xF6) (by simp)
  · have hexec : ∃ r, exec i s = .next (s.accumulate r len) ∧ IsLogicResult r s.regs.a v op ac := by
      simp only [List.mem_cons, Prod.mk.injEq, List.not_mem_nil, or_false, ← s.operand_eq] at hform
      rcases hform with ⟨rfl, rfl, rfl, rfl, rfl⟩ | ⟨rfl, rfl, rfl, rfl, rfl⟩ | ⟨rfl, rfl, rfl, rfl, rfl⟩ |
        ⟨rfl, rfl, rfl, rfl, rfl⟩ | ⟨rfl, rfl, rfl, rfl, rfl⟩ | ⟨rfl, rfl, rfl, rfl, rfl⟩
      · exact ⟨_, rfl, and8_isLogicResult _ _⟩
      · exact ⟨_, rfl, and8_isLogicResult _ _⟩
      · exact ⟨_, rfl, xor8_isLogicResult _ _⟩
      · exact ⟨_, rfl, xor8_isLogicResult _ _⟩
      · exact ⟨_, rfl, or8_isLogicResult _ _⟩
      · exact ⟨_, rfl, or8_isLogicResult _ _⟩
    obtain ⟨r, hexec, hvalue, hflags⟩ := hexec
    exact ⟨_, hexec, hvalue, accumulate_flagsBecome s r len hflags, rfl, rfl, rfl, accumulate_frame s r len⟩

end Sys2Proof.Machine
end

section
/-! SUPPORT. What the shared operations of the instruction rules do to pc, to the flags and to the registers. -/

namespace Sys2Proof.Machine

section
variable (s : State)

/-! `accumulate`, `compared`, `rotated`, `updated` -/

@[simp] theorem State.accumulate_pc (r : AluResult) (n : Word) : (s.accumulate r n).pc = s.pc + n := rfl
@[simp] theorem State.accumulate_regs (r : AluResult) (n : Word) :
    (s.accumulate r n).regs = s.regs.set .a r.value := rfl
theorem State.accumulate_flags (r : AluResult) (n : Word) (h : s.params.flagModel = .intel8080) :
    (s.accumulate r n).flags = r.flags := (s.setReg .a r.value).setFlags_flags_intel r.flags h

@[simp] theorem State.compared_pc (r : AluResult) (n : Word) : (s.compared r n).pc = s.pc + n := rfl
@[simp] theorem State.compared_regs (r : AluResult) (n : Word) : (s.compared r n).regs = s.regs := rfl

@[simp] theorem State.rotated_pc (r : RotateResult) : (s.rotated r).pc = s.pc + 1 := rfl
@[simp] theorem State.rotated_regs (r : RotateResult) : (s.rotated r).regs = s.regs.set .a r.value := rfl

theorem State.setCarry_flags_intel (v : Bool) (h : s.params.flagModel = .intel8080) :
    (s.setCarry v).flags = { s.flags with cy := v } := s.setFlags_flags_intel _ h
theorem State.rotated_flags (r : RotateResult) (h : s.params.flagModel = .intel8080) :
    (s.rotated r).flags = { s.flags with cy := r.carry } := (s.setReg .a r.value).setCarry_flags_intel r.carry h

@[simp] theorem State.updated_pc (d : Operand) (r : AluResult) : (s.updated d r).pc = s.pc + 1 := by
  simp [State.updated]
@[simp] theorem State.updated_regs (d : Operand) (r : AluResult) :
    (s.updated d r).regs = (s.setOperand d r.value).regs := rfl
theorem State.updated_flags (d : Operand) (r : AluResult) (h : s.params.flagModel = .intel8080) :
    (s.updated d r).flags = r.flags :=
  (s.setOperand d r.value).setFlags_flags_intel r.flags (by rwa [State.setOperand_params])

/-! Jumps, calls and returns -/

theorem State.jumpIf_pc (cc : Cond) (target : Word) :
    (s.jumpIf cc target).pc = if conditionSeen s cc then target else s.pc + 3 := by
  rw [State.jumpIf_eq]
  rfl
@[simp] theorem State.jumpIf_regs (cc : Cond) (target : Word) : (s.jumpIf cc target).regs = s.regs := by
  simp [State.jumpIf_eq]
@[simp] theorem State.jumpIf_flags (cc : Cond) (target : Word) : (s.jumpIf cc target).flags = s.flags := by
  simp [State.jumpIf_eq]

@[simp] theorem State.callTo_regs (target : Word) : (s.callTo target).regs = s.regs := rfl
@[simp] theorem State.callTo_flags (target : Word) : (s.callTo target).flags = s.flags := rfl

theorem State.callIf_pc (cc : Cond) (target : Word) :
    (s.callIf cc target).pc = if conditionSeen s cc then target else s.pc + 3 := by
  rw [State.callIf, State.holds_eq]
  split <;> rfl
@[simp] theorem State.callIf_regs (cc : Cond) (target : Word) : (s.callIf cc target).regs = s.regs := by
  unfold State.callIf
  split <;> rfl
@[simp] theorem State.callIf_flags (cc : Cond) (target : Word) : (s.callIf cc target).flags = s.flags := by
  unfold State.callIf
  split <;> rfl

@[simp] theorem State.returnNow_regs : s.returnNow.regs = s.regs := rfl
@[simp] theorem State.returnNow_flags : s.returnNow.flags = s.flags := rfl

theorem State.returnIf_pc (cc : Cond) : (s.returnIf cc).pc = if conditionSeen s cc then s.stackTop else s.pc + 1 := by
  rw [State.returnIf, State.holds_eq]
  split <;> rfl
@[simp] theorem State.returnIf_regs (cc : Cond) : (s.returnIf cc).regs = s.regs := by
  unfold State.returnIf
  split <;> rfl
@[simp] theorem State.returnIf_flags (cc : Cond) : (s.returnIf cc).flags = s.flags := by
  unfold State.returnIf
  split <;> rfl

@[simp] theorem State.stackPairRead_pc (p : StackPair) : (s.stackPairRead p).pc = s.pc := by cases p <;> rfl
@[simp] theorem State.stackPairRead_regs (p : StackPair) : (s.stackPairRead p).regs = s.regs := by cases p <;> rfl
@[simp] theorem State.stackPairRead_flags (p : StackPair) : (s.stackPairRead p).flags = s.flags := by
  cases p <;> rfl

end

/-- The restart address is the vector times 8 (30_encoding.md R87). -/
theorem restartTarget_eq (n : BitVec 3) : restartTarget n = BitVec.ofNat 16 (n.toNat * 8) := by
  revert n
  decide

end Sys2Proof.Machine
end

section
/-! SUPPORT. The execution engine (40_execution_engine.md): its steps, and what each instruction does to pc, to the
flags and to the registers. -/

namespace Sys2Proof.Machine

/-! ## Steps (R110, R122) -/

theorem step_stall {s : State} (hrun : s.halted = false) (hstall : 0 < s.stall) : step s = .next s.stallStep := by
  simp [step, hrun, hstall]

theorem step_halted {s : State} (h : s.halted = true) : step s = .refused .runEnded := by simp [step, h]

/-- Settles O13, from the two steps that run no instruction. -/
theorem stallStepOnlyCountsDown : Obligations.StallStepOnlyCountsDown := by
  unfold Obligations.StallStepOnlyCountsDown
  intro s
  exact ⟨fun hrun hstall => ⟨s.stallStep, step_stall hrun hstall, Nat.succ_pred_eq_of_pos hstall, rfl⟩, step_halted⟩

/-- Settles O14: a step that is not refused is a stall step or runs an instruction, which has a next state. -/
theorem noInstructionFaults : Obligations.NoInstructionFaults := by
  unfold Obligations.NoInstructionFaults
  refine ⟨exec_next, fun s hrun => ?_, fun _ r => nomatch r⟩
  rcases Nat.eq_zero_or_pos s.stall with hstall | hstall
  · exact exists_step hrun hstall
  · exact ⟨_, step_stall hrun hstall⟩

/-- Settles O32, from the bytes that no stage matches. -/
theorem unrecognizedIsReportedAndSkipped : Obligations.UnrecognizedIsReportedAndSkipped := by
  unfold Obligations.UnrecognizedIsReportedAndSkipped
  intro s op
  refine ⟨.of_stage rfl fun x hw => ?_, _, rfl, rfl, rfl, rfl, rfl, rfl, fun _ _ => rfl, fun _ _ => rfl,
    (keepsControl_iff _ _).2 rfl⟩
  exact (decode_stage_unmatched_iff x op 0 0).2 (List.contains_iff_mem.1 hw)

/-! ## The program counter (R112) -/

/-- Settles O15, by the instruction: a conditional form goes where its condition sends it, and a form that does not
redirect moves pc by the length of its encoding. -/
theorem programCounterSequencing : Obligations.ProgramCounterSequencing := by
  unfold Obligations.ProgramCounterSequencing
  intro i s
  cases i
  case jnz | jz | jnc | jc | jpo | jpe | jp | jm => exact ⟨_, rfl, s.jumpIf_pc _ _⟩
  case cnz | cz | cnc | cc | cpo | cpe | cp | cm => exact ⟨_, rfl, s.callIf_pc _ _⟩
  case rnz | rz | rnc | rc | rpo | rpe | rp | rm => exact ⟨_, rfl, s.returnIf_pc _⟩
  case rst n => exact ⟨_, rfl, restartTarget_eq n⟩
  case inr | dcr | lxi | dad | inx | dcx | mov | mvi | push | pop =>
    exact ⟨_, rfl, by simp [encode, Instr.operandBytes]⟩
  all_goals exact ⟨_, rfl, rfl⟩

/-! ## The flags (R123) -/

/-- Settles O24, by the instruction: a form writes all flags, those of a logic result, those of INR and DCR, the carry
alone, or none. -/
theorem flagSummary : Obligations.FlagSummary := by
  unfold Obligations.FlagSummary
  intro i s t hm h
  dsimp only
  cases i
  all_goals cases h
  -- all flags
  case add o | adc o | sub o | sbb o | cmp o => cases o <;> simp [Instr.form]
  case adi | aci | sui | sbi | cpi | daa => simp [Instr.form]
  case pop p => cases p <;> simp [Instr.form, State.setStackPair]
  -- all flags, CY cleared
  case ana o | xra o | ora o =>
    cases o <;> simp [Instr.form, State.accumulate_flags, hm, and8, xor8, or8, logicFlags]
  case ani | xri | ori => simp [Instr.form, State.accumulate_flags, hm, and8, xor8, or8, logicFlags]
  -- all flags but CY
  case inr o | dcr o => cases o <;> simp [Instr.form, State.updated_flags, hm, inc8, dec8, Flags.szp]
  -- CY alone
  case rlc | rrc | ral | rar => simp [Instr.form, State.rotated_flags, hm]
  case dad | stc | cmc => simp [Instr.form, State.setFlags_flags_intel, hm]
  -- no flag
  case push p => cases p <;> simp [Instr.form]
  case mvi d v => cases d <;> simp [Instr.form]
  case mov d o => cases d <;> cases o <;> simp [Instr.form]
  all_goals simp [Instr.form]

/-! ## The registers (10_state.md section 8) -/

/-- The register an operand is; the byte at HL is none (40_execution_engine.md R113). -/
def operandRegs : Operand → List Reg
  | .reg r => [r]
  | .mem => []

/-- The registers POP writes (43_stack_exchange.md R174, R175). -/
def stackPairRegs : StackPair → List Reg
  | .bc => [.b, .c]
  | .de => [.d, .e]
  | .hl => [.h, .l]
  | .psw => [.a]

/-- The registers an instruction may write (10_state.md section 8). -/
def writtenRegs : Instr → List Reg
  | .mov d _ | .mvi d _ | .inr d | .dcr d => operandRegs d
  | .lxi p _ | .inx p | .dcx p => pairRegs p
  | .pop p => stackPairRegs p
  | .dad _ | .lhld _ | .xthl => [.h, .l]
  | .xchg => [.d, .e, .h, .l]
  | .add _ | .adc _ | .sub _ | .sbb _ | .ana _ | .xra _ | .ora _ | .adi _ | .aci _ | .sui _ | .sbi _ | .ani _ | .xri _
  | .ori _ | .rlc | .rrc | .ral | .rar | .cma | .daa | .lda _ | .ldax _ | .inp _ => [.a]
  | .nop | .hlt | .ei | .di | .jmp _ | .jnz _ | .jz _ | .jnc _ | .jc _ | .jpo _ | .jpe _ | .jp _ | .jm _ | .call _
  | .cnz _ | .cz _ | .cnc _ | .cc _ | .cpo _ | .cpe _ | .cp _ | .cm _ | .ret | .rnz | .rz | .rnc | .rc | .rpo | .rpe
  | .rp | .rm | .rst _ | .pchl | .push _ | .sphl | .stc | .cmc | .cmp _ | .cpi _ | .sta _ | .shld _ | .stax _ | .out _
  | .unrecognized _ => []

section
variable (s : State)

theorem keepsRegsBut_setOperand (d : Operand) (v : Byte) : KeepsRegsBut s (s.setOperand d v) (operandRegs d) := by
  cases d with
  | reg r => exact keepsRegsBut_of_set s rfl
  | mem => exact fun _ _ => rfl

theorem keepsRegsBut_setPair (p : Pair) (w : Word) : KeepsRegsBut s (s.setPair p w) (pairRegs p) :=
  fun q hq => s.get_setPair_other p w q hq

theorem keepsRegsBut_setStackPair (p : StackPair) (w : Word) :
    KeepsRegsBut s (s.setStackPair p w) (stackPairRegs p) := by
  cases p
  case psw => exact keepsRegsBut_of_set s rfl
  case bc => exact keepsRegsBut_setPair s .bc w
  case de => exact keepsRegsBut_setPair s .de w
  case hl => exact keepsRegsBut_setPair s .hl w

end

/-- An instruction keeps the registers it is not listed for. -/
theorem exec_keepsRegsBut {i : Instr} {s t : State} (h : exec i s = .next t) :
    KeepsRegsBut s t (writtenRegs i) := by
  cases i
  all_goals cases h
  case mov d _ | mvi d _ | inr d | dcr d => exact keepsRegsBut_setOperand s d _
  case lxi p _ | inx p | dcx p => exact keepsRegsBut_setPair s p _
  case dad | lhld | xthl => exact keepsRegsBut_setPair s .hl _
  case pop p => exact keepsRegsBut_setStackPair s.dropTop p _
  case xchg =>
    intro q hq
    obtain ⟨hde, hhl⟩ : q ∉ pairRegs .de ∧ q ∉ pairRegs .hl := by
      simpa [writtenRegs, pairRegs, and_assoc] using hq
    exact ((s.setPair .hl s.regs.de).get_setPair_other .de s.regs.hl q hde).trans (s.get_setPair_other .hl _ q hhl)
  case add | adc | sub | sbb | ana | xra | ora | adi | aci | sui | sbi | ani | xri | ori | rlc | rrc | ral | rar | cma
    | daa | lda | ldax | inp => exact keepsRegsBut_of_set (r := .a) s rfl
  all_goals -- no other instruction writes a register
    intro q _
    simp

theorem mem_operandRegs {r : Reg} {d : Operand} : r ∈ operandRegs d ↔ d = .reg r := by
  cases d <;> simp [operandRegs, eq_comm]

/-- Settles O25: a register that differs is one the instruction is listed for. -/
theorem registersHaveTheListedWriters : Obligations.RegistersHaveTheListedWriters := by
  unfold Obligations.RegistersHaveTheListedWriters
  intro i s t h
  have hwritten : ∀ r : Reg, t.regs.get r ≠ s.regs.get r → r ∈ writtenRegs i :=
    fun r hne => by_contra fun hr => hne (exec_keepsRegsBut h r hr)
  refine ⟨fun hne => ?_, fun r hr hne => ?_, fun r hr hne => ?_⟩
  · have hi : .a ∈ writtenRegs i := hwritten .a hne
    cases i
    case mov d x | mvi d v | inr d | dcr d =>
      obtain rfl := mem_operandRegs.1 hi
      simp
    case lxi p w | inx p | dcx p => cases p <;> simp [writtenRegs, pairRegs] at hi
    case pop p => cases p <;> simp [writtenRegs, stackPairRegs, Instr.form] at hi ⊢
    case add o | adc o | sub o | sbb o | ana o | xra o | ora o => cases o <;> simp [Instr.form]
    all_goals simp [writtenRegs, Instr.form] at hi ⊢
  · have hi := hwritten r hne
    cases i
    case mov d x | mvi d v | inr d | dcr d =>
      obtain rfl := mem_operandRegs.1 hi
      simp
    case lxi p w | inx p | dcx p => simpa [writtenRegs] using hi
    case pop p => cases p <;> grind [writtenRegs, stackPairRegs]
    all_goals grind [writtenRegs]
  · have hi := hwritten r hne
    cases i
    case mov d x | mvi d v | inr d | dcr d =>
      obtain rfl := mem_operandRegs.1 hi
      simp
    case lxi p w | inx p | dcx p => cases p <;> grind [writtenRegs, pairRegs]
    case pop p => cases p <;> grind [writtenRegs, stackPairRegs]
    all_goals grind [writtenRegs, Instr.form]

end Sys2Proof.Machine
end

section
/-! SUPPORT. Under `FLAG_MODEL = unmodelled` the flag field is no state (40_execution_engine.md R119): every operation
answers the same with another flag field, which it carries along. -/

namespace Sys2Proof.Machine

/-- The same state with another flag field. -/
def State.withFlags (s : State) (f : Flags) : State := { s with flags := f }

section
variable (s : State) (f : Flags)

/-! ## What no flag decides -/

@[simp] theorem State.withFlags_regs : (s.withFlags f).regs = s.regs := rfl
@[simp] theorem State.withFlags_sp : (s.withFlags f).sp = s.sp := rfl
@[simp] theorem State.withFlags_pc : (s.withFlags f).pc = s.pc := rfl
@[simp] theorem State.withFlags_params : (s.withFlags f).params = s.params := rfl
@[simp] theorem State.withFlags_draws : (s.withFlags f).draws = s.draws := rfl
@[simp] theorem State.withFlags_stall : (s.withFlags f).stall = s.stall := rfl
@[simp] theorem State.withFlags_halted : (s.withFlags f).halted = s.halted := rfl
@[simp] theorem State.withFlags_readByte (a : Word) : (s.withFlags f).readByte a = s.readByte a := rfl
@[simp] theorem State.withFlags_stackTop : (s.withFlags f).stackTop = s.stackTop := rfl
@[simp] theorem State.withFlags_readWord (a : Word) : (s.withFlags f).readWord a = s.readWord a := rfl
@[simp] theorem State.withFlags_fetched : (s.withFlags f).fetched = s.fetched := rfl
@[simp] theorem State.withFlags_operand (o : Operand) : (s.withFlags f).operand o = s.operand o := by cases o <;> rfl
@[simp] theorem State.withFlags_pair (p : Pair) : (s.withFlags f).pair p = s.pair p := by cases p <;> rfl
@[simp] theorem State.withFlags_indexAddr (p : IndexPair) : (s.withFlags f).indexAddr p = s.indexAddr p := by
  cases p <;> rfl
@[simp] theorem State.withFlags_loadAt (a : Word) : (s.withFlags f).loadAt a = s.loadAt a := rfl
@[simp] theorem State.withFlags_loadWordAt (a : Word) : (s.withFlags f).loadWordAt a = s.loadWordAt a := rfl
@[simp] theorem State.withFlags_operandLoad (o : Operand) : (s.withFlags f).operandLoad o = s.operandLoad o := by
  cases o <;> rfl
@[simp] theorem State.withFlags_operandStore (v : Byte) (o : Operand) :
    (s.withFlags f).operandStore v o = s.operandStore v o := by cases o <;> rfl
@[simp] theorem State.withFlags_operandAddr (o : Operand) : (s.withFlags f).operandAddr o = s.operandAddr o := by
  cases o <;> rfl
@[simp] theorem State.withFlags_fetchesOf (n : Nat) : (s.withFlags f).fetchesOf n = s.fetchesOf n := rfl
@[simp] theorem State.withFlags_diagnosticOf (d : DecodedInstruction) :
    (s.withFlags f).diagnosticOf d = s.diagnosticOf d := rfl

/-! ## Operations that carry the flag field along -/

@[simp] theorem State.withFlags_setReg (r : Reg) (v : Byte) :
    (s.withFlags f).setReg r v = (s.setReg r v).withFlags f := rfl
@[simp] theorem State.withFlags_setSp (w : Word) : (s.withFlags f).setSp w = (s.setSp w).withFlags f := rfl
@[simp] theorem State.withFlags_advance (n : Word) : (s.withFlags f).advance n = (s.advance n).withFlags f := rfl
@[simp] theorem State.withFlags_jump (a : Word) : (s.withFlags f).jump a = (s.jump a).withFlags f := rfl
@[simp] theorem State.withFlags_writeByte (a : Word) (v : Byte) :
    (s.withFlags f).writeByte a v = (s.writeByte a v).withFlags f := rfl
@[simp] theorem State.withFlags_writeWord (a w : Word) :
    (s.withFlags f).writeWord a w = (s.writeWord a w).withFlags f := rfl
@[simp] theorem State.withFlags_push16 (w : Word) : (s.withFlags f).push16 w = (s.push16 w).withFlags f := rfl
@[simp] theorem State.withFlags_dropTop : (s.withFlags f).dropTop = s.dropTop.withFlags f := rfl
@[simp] theorem State.withFlags_callTo (a : Word) : (s.withFlags f).callTo a = (s.callTo a).withFlags f := rfl
@[simp] theorem State.withFlags_returnNow : (s.withFlags f).returnNow = s.returnNow.withFlags f := rfl
@[simp] theorem State.withFlags_setInte (v : Bool) : (s.withFlags f).setInte v = (s.setInte v).withFlags f := rfl
@[simp] theorem State.withFlags_halt : (s.withFlags f).halt = s.halt.withFlags f := rfl
@[simp] theorem State.withFlags_report (op : Byte) : (s.withFlags f).report op = (s.report op).withFlags f := rfl
@[simp] theorem State.withFlags_emitIo (e : IoEvent) : (s.withFlags f).emitIo e = (s.emitIo e).withFlags f := rfl
@[simp] theorem State.withFlags_drawn (n : Nat) : (s.withFlags f).drawn n = (s.drawn n).withFlags f := rfl
@[simp] theorem State.withFlags_flagsRead (n : Nat) :
    (s.withFlags f).flagsRead n = (s.flagsRead n).withFlags f := rfl
@[simp] theorem State.withFlags_setPair (p : Pair) (w : Word) :
    (s.withFlags f).setPair p w = (s.setPair p w).withFlags f := by cases p <;> rfl
@[simp] theorem State.withFlags_setOperand (d : Operand) (v : Byte) :
    (s.withFlags f).setOperand d v = (s.setOperand d v).withFlags f := by cases d <;> rfl
@[simp] theorem State.withFlags_stackPairRead (p : StackPair) :
    (s.withFlags f).stackPairRead p = (s.stackPairRead p).withFlags f := by cases p <;> rfl

/-! ## Flags read and written under `unmodelled` (R119): a read is a draw, a write is omitted -/

variable {s} (hm : s.params.flagModel = .unmodelled)
include hm

theorem State.setFlags_unmodelled (g : Flags) : s.setFlags g = s := by simp [State.setFlags, hm]

theorem State.setCarry_unmodelled (v : Bool) : s.setCarry v = s := State.setFlags_unmodelled hm _

theorem State.accumulate_unmodelled (r : AluResult) (n : Word) :
    s.accumulate r n = (s.setReg .a r.value).advance n :=
  congrArg (State.advance · n) (State.setFlags_unmodelled (s := s.setReg .a r.value) hm r.flags)

theorem State.compared_unmodelled (r : AluResult) (n : Word) : s.compared r n = s.advance n :=
  congrArg (State.advance · n) (State.setFlags_unmodelled hm r.flags)

theorem State.rotated_unmodelled (r : RotateResult) : s.rotated r = (s.setReg .a r.value).advance 1 :=
  congrArg (State.advance · 1) (State.setCarry_unmodelled (s := s.setReg .a r.value) hm r.carry)

theorem State.updated_unmodelled (d : Operand) (r : AluResult) :
    s.updated d r = (s.setOperand d r.value).advance 1 :=
  congrArg (State.advance · 1)
    (State.setFlags_unmodelled (s := s.setOperand d r.value) (by rwa [State.setOperand_params]) r.flags)

theorem State.flagBit_withFlags (k : Nat) (get : Flags → Bool) : (s.withFlags f).flagBit k get = s.flagBit k get := by
  simp [State.flagBit, hm]

theorem State.flagByte_withFlags : (s.withFlags f).flagByte = s.flagByte := by
  simp [State.flagByte, hm]

theorem State.carry_withFlags : (s.withFlags f).carry = s.carry := State.flagBit_withFlags f hm 0 _

theorem State.holds_withFlags (cc : Cond) : (s.withFlags f).holds cc = s.holds cc := State.flagBit_withFlags f hm 0 _

theorem State.stackPair_withFlags (p : StackPair) : (s.withFlags f).stackPair p = s.stackPair p := by
  cases p
  case psw => simp only [State.stackPair, State.flagByte_withFlags f hm, State.withFlags_regs]
  all_goals rfl

theorem State.setStackPair_withFlags (p : StackPair) (w : Word) :
    (s.withFlags f).setStackPair p w = (s.setStackPair p w).withFlags f := by
  cases p
  case psw => simp [State.setStackPair, State.setFlags_unmodelled, hm]
  all_goals rfl

theorem State.takenBy_withFlags (i : Instr) : (s.withFlags f).takenBy i = s.takenBy i := by
  unfold State.takenBy
  cases i.cond <;> simp [State.holds_withFlags f hm]

end

end Sys2Proof.Machine
end

section
/-! SUPPORT. A step under `FLAG_MODEL = unmodelled` (40_execution_engine.md R119). -/

namespace Sys2Proof.Machine

section
variable {i : Instr} {s t : State} (f : Flags) (hm : s.params.flagModel = .unmodelled)
include hm

/-- An instruction answers the same with another flag field, which it carries along. -/
theorem exec_withFlags (h : exec i s = .next t) : exec i (s.withFlags f) = .next (t.withFlags f) := by
  have hcarry := State.carry_withFlags f hm
  have hholds := State.holds_withFlags f hm
  cases i
  all_goals
    cases h
    refine congrArg Host.Outcome.next ?_
  case jnz | jz | jnc | jc | jpo | jpe | jp | jm =>
    simp only [State.jumpIf, hholds]
    split <;> rfl
  case cnz | cz | cnc | cc | cpo | cpe | cp | cm =>
    simp only [State.callIf, hholds]
    split <;> rfl
  case rnz | rz | rnc | rc | rpo | rpe | rp | rm =>
    simp only [State.returnIf, hholds]
    split <;> rfl
  case push p => simp [State.stackPair_withFlags f hm]
  case pop p => simp [State.setStackPair_withFlags, hm]
  case daa => simp [State.setFlags_unmodelled, hm, hcarry, State.flagBit_withFlags f hm]
  case inr | dcr => simp [State.updated_unmodelled, hm, inc8, dec8]
  case dad | stc | cmc => simp [State.setCarry_unmodelled, hm]
  all_goals simp [State.accumulate_unmodelled, State.compared_unmodelled, State.rotated_unmodelled, hm, hcarry]

theorem State.dataAccesses_withFlags (i : Instr) : (s.withFlags f).dataAccesses i = s.dataAccesses i := by
  cases i
  case push p => simp [State.dataAccesses, State.stackPair_withFlags f hm]
  case inr | dcr => simp [State.dataAccesses, inc8, dec8]
  all_goals simp [State.dataAccesses, State.takenBy_withFlags f hm]

theorem State.effectiveAddr_withFlags (i : Instr) : (s.withFlags f).effectiveAddr i = s.effectiveAddr i := by
  cases i <;> simp [State.effectiveAddr, State.takenBy_withFlags f hm]

theorem State.retire_withFlags (d : DecodedInstruction) (after : State) :
    (s.withFlags f).retire d (after.withFlags f) = (s.retire d after).withFlags f := by
  have htrace : (s.withFlags f).traceRecord d = s.traceRecord d := by
    simp [State.traceRecord, State.effectiveAddr_withFlags f hm, State.takenBy_withFlags f hm]
  simp only [State.retire, htrace, State.takenBy_withFlags f hm, State.dataAccesses_withFlags f hm]
  rfl

theorem step_withFlags (h : step s = .next t) : step (s.withFlags f) = .next (t.withFlags f) := by
  obtain ⟨hrun, ⟨hstall, rfl⟩ | ⟨hstall, after, hexec, rfl⟩⟩ := step_cases h
  · exact step_stall hrun hstall
  · rw [← State.retire_withFlags f hm]
    exact step_of_exec hrun hstall (exec_withFlags f hm hexec)

end

/-- Settles O18: a step carries the flag field along, so with the state's own field it gives that field back. -/
theorem unmodelledFlagsAreNoState : Obligations.UnmodelledFlagsAreNoState := by
  unfold Obligations.UnmodelledFlagsAreNoState
  intro s t f hm h
  have hown : t = t.withFlags s.flags := Host.Outcome.next.inj (h.symm.trans (step_withFlags s.flags hm h))
  exact ⟨by rw [hown]; rfl, step_withFlags f hm h⟩

end Sys2Proof.Machine
end

section
/-! SUPPORT. Machine control (41_machine_control.md R140 to R143): NOP, HLT, EI and DI write pc and at most one bit of
the control state. -/

namespace Sys2Proof.Machine

/-- The entries of machine control (30_encoding.md R79). -/
theorem machineControl_encodedAs :
    ∀ row ∈ ([(.nop, 0x00), (.hlt, 0x76), (.ei, 0xFB), (.di, 0xF3)] : List (Instr × Byte)),
      EncodedAs row.1 [row.2] .exact := by
  intro row hrow
  fin_cases hrow <;> exact .of_stage rfl fun x _ => by cases x <;> rfl

/-- A state with the registers, the memory and the control part of `s` is `s` to a frame that writes nothing. -/
theorem Frame.of_unwritten {s t : State} (hregs : t.regs = s.regs) (hmem : t.mem = s.mem)
    (hcontrol : t.control = s.control) : Frame s t [] [] :=
  ⟨fun _ _ => by rw [hregs], fun a _ => congrArg (·.read a.toNat) hmem, (keepsControl_iff s t).2 hcontrol⟩

/-- Settles O30: NOP moves pc, EI and DI write INTE before they move it. -/
theorem nopEiDiWriteAtMostInte : Obligations.NopEiDiWriteAtMostInte := by
  unfold Obligations.NopEiDiWriteAtMostInte
  refine ⟨machineControl_encodedAs (.nop, 0x00) (by decide), machineControl_encodedAs (.ei, 0xFB) (by decide),
    machineControl_encodedAs (.di, 0xF3) (by decide), fun s i v hiv => ?_⟩
  simp only [List.mem_cons, List.not_mem_nil, or_false, Prod.mk.injEq] at hiv
  obtain ⟨rfl, rfl⟩ | ⟨rfl, rfl⟩ | ⟨rfl, rfl⟩ := hiv
  · exact ⟨s.advance 1, rfl, rfl, rfl, rfl, rfl, rfl, .of_unwritten rfl rfl rfl⟩
  · exact ⟨(s.setInte true).advance 1, rfl, rfl, rfl, rfl, rfl, rfl, .of_unwritten rfl rfl rfl⟩
  · exact ⟨(s.setInte false).advance 1, rfl, rfl, rfl, rfl, rfl, rfl, .of_unwritten rfl rfl rfl⟩

/-- Settles O31: HLT leaves a halted state, which has no step. -/
theorem hltEndsTheRun : Obligations.HltEndsTheRun := by
  unfold Obligations.HltEndsTheRun
  exact ⟨machineControl_encodedAs (.hlt, 0x76) (by decide), fun s => ⟨s.halt.advance 1, rfl, rfl, rfl, rfl, rfl, rfl,
    .of_unwritten rfl rfl rfl, step_halted rfl⟩⟩

end Sys2Proof.Machine
end

section
/-! SUPPORT. Control transfer (42_control_transfer.md): the encodings of its forms, the conditional forms named by their
condition, and what a push and a return leave. -/

namespace Sys2Proof.Machine

/-! ## Encodings (30_encoding.md R79, R81, R86, R87) -/

/-- The entries with an address, its low byte first. -/
theorem address_encodedAs (b1 b2 : Byte) :
    ∀ row ∈ ([(.jmp, 0xC3), (.call, 0xCD), (.lda, 0x3A), (.sta, 0x32), (.lhld, 0x2A), (.shld, 0x22)] :
        List ((Word → Instr) × Byte)), EncodedAs (row.1 (cat16 b2 b1)) [row.2, b1, b2] .exact := by
  intro row hrow
  fin_cases hrow <;>
    exact .of_stage (by simp [encode, Instr.opcode, Instr.operandBytes]) fun x _ => by cases x <;> rfl

/-- The stage of an encoding, read off its first byte as it stands in the list of bytes. -/
theorem EncodedAs.of_first_byte {i : Instr} {op : Byte} {rest : List Byte} {st : Stage} (hbytes : encode i = op :: rest)
    (hst : ∀ x, (decode x op 0 0).stage = st) : EncodedAs i (op :: rest) st := by
  obtain ⟨hop, -⟩ : i.opcode = op ∧ i.operandBytes = rest := List.cons.inj hbytes
  exact .of_stage hbytes fun x _ => hop ▸ hst x

theorem rst_encodedAs (n : BitVec 3) : EncodedAs (.rst n) [0xC7 + 8 * n.setWidth 8] (.masked .rst) := by
  have hbyte : ∀ n : BitVec 3, encode (.rst n) = [0xC7 + 8 * n.setWidth 8] := by decide
  have hstage : ∀ (n : BitVec 3) (x : Bool), (decode x (0xC7 + 8 * n.setWidth 8) 0 0).stage = .masked .rst := by decide
  exact .of_first_byte (hbyte n) (hstage n)

section
variable (b1 b2 : Byte) (cc : Cond)

theorem jumpOn_encodedAs :
    EncodedAs (Instr.jumpOn (cat16 b2 b1) cc) [0xC2 + 8 * condSelector cc, b1, b2] (.masked .jcc) := by
  refine .of_first_byte ?_ fun x => by cases x <;> cases cc <;> rfl
  rw [encode_jumpOn, lo_cat16, hi_cat16]
  cases cc <;> rfl

theorem callOn_encodedAs :
    EncodedAs (Instr.callOn (cat16 b2 b1) cc) [0xC4 + 8 * condSelector cc, b1, b2] (.masked .ccc) := by
  refine .of_first_byte ?_ fun x => by cases x <;> cases cc <;> rfl
  rw [encode_callOn, lo_cat16, hi_cat16]
  cases cc <;> rfl

theorem returnOn_encodedAs : EncodedAs (Instr.returnOn cc) [0xC0 + 8 * condSelector cc] (.masked .rcc) := by
  refine .of_first_byte ?_ fun x => by cases x <;> cases cc <;> rfl
  rw [encode_returnOn]
  cases cc <;> rfl

end

/-! ## The conditional forms by their condition (42_control_transfer.md R151, R153, R155) -/

theorem DrawsFlags.of_draws {s t : State} {n : Nat} (h : t.draws = (s.flagsRead n).draws) : DrawsFlags s t n := by
  rw [DrawsFlags, h]
  exact s.flagsRead_drawsFlags n

section
variable (s : State)

theorem exec_jumpOn (target : Word) (cc : Cond) : exec (Instr.jumpOn target cc) s = .next (s.jumpIf cc target) := by
  cases cc <;> rfl

theorem exec_callOn (target : Word) (cc : Cond) : exec (Instr.callOn target cc) s = .next (s.callIf cc target) := by
  cases cc <;> rfl

theorem exec_returnOn (cc : Cond) : exec (Instr.returnOn cc) s = .next (s.returnIf cc) := by cases cc <;> rfl

/-! ## A word on the stack (43_stack_exchange.md R170) -/

section
variable (w : Word)

@[simp] theorem State.readByte_push16_low : (s.push16 w).readByte (s.sp - 2) = lo w := by
  rw [State.readByte_push16, if_neg (Word.add_one_ne _).symm, if_pos rfl]

@[simp] theorem State.readByte_push16_high : (s.push16 w).readByte (s.sp - 2 + 1) = hi w := by
  rw [State.readByte_push16, if_pos rfl]

theorem push16_frame : Frame s (s.push16 w) [] [s.sp - 2, s.sp - 2 + 1] := by
  refine ⟨fun _ _ => rfl, fun a ha => ?_, (keepsControl_iff _ _).2 rfl⟩
  obtain ⟨hlow, hhigh⟩ : a ≠ s.sp - 2 ∧ a ≠ s.sp - 2 + 1 := by simpa using ha
  rw [State.readByte_push16, if_neg hhigh, if_neg hlow]

/-- A push followed by a jump leaves the pushed word, low byte first, and touches no other byte. -/
theorem push16_jump_stores (target : Word) :
    (((s.push16 w).jump target).readByte (s.sp - 2)).toNat = w.toNat % 256
      ∧ (((s.push16 w).jump target).readByte (s.sp - 2 + 1)).toNat = w.toNat / 256
      ∧ Frame s ((s.push16 w).jump target) [] [s.sp - 2, s.sp - 2 + 1] := by
  refine ⟨?_, ?_, push16_frame s w⟩
  · rw [State.readByte_jump, State.readByte_push16_low, lo_toNat]
  · rw [State.readByte_jump, State.readByte_push16_high, hi_toNat]

end

theorem State.stackTop_toNat :
    s.stackTop.toNat = (s.readByte (s.sp + 1)).toNat * 256 + (s.readByte s.sp).toNat := cat16_toNat _ _

end

/-- A restart goes to the vector times 8 (42_control_transfer.md R156). -/
theorem eq_restartTarget {target : Word} {n : BitVec 3} (h : target.toNat = n.toNat * 8) :
    target = restartTarget n := by
  rw [restartTarget_eq, ← h, BitVec.ofNat_toNat, BitVec.setWidth_eq]

/-! ## The statements -/

/-- Settles O33: JMP and PCHL are a jump and nothing else. -/
theorem jumpsSetThePc : Obligations.JumpsSetThePc := by
  unfold Obligations.JumpsSetThePc
  refine ⟨fun b1 b2 => address_encodedAs b1 b2 (.jmp, 0xC3) (by simp),
    .of_stage rfl fun x _ => by cases x <;> rfl, fun s target => ?_, fun s => ?_⟩
  · exact ⟨s.jump target, rfl, rfl, rfl, rfl, rfl, .of_unwritten rfl rfl rfl⟩
  · exact ⟨s.jump s.regs.hl, rfl, rfl, rfl, rfl, rfl, .of_unwritten rfl rfl rfl⟩

/-- Settles O34: both outcomes read one condition and write pc alone. -/
theorem conditionalJumps : Obligations.ConditionalJumps := by
  unfold Obligations.ConditionalJumps
  rintro s b1 b2 _ i cc rfl hi
  obtain rfl : i = Instr.jumpOn (cat16 b2 b1) cc := by cases cc <;> simpa [Instr.jumpOn] using hi
  exact ⟨jumpOn_encodedAs b1 b2 cc, s.jumpIf cc (cat16 b2 b1), exec_jumpOn s _ cc, s.jumpIf_pc cc _, s.jumpIf_sp cc _,
    s.jumpIf_flags cc _, .of_draws (s.jumpIf_draws cc _),
    .of_unwritten (s.jumpIf_regs cc _) (s.jumpIf_mem cc _) (s.jumpIf_control cc _)⟩

/-- Settles O35: both forms push the return address and jump. -/
theorem callAndRestartPushTheReturnAddress : Obligations.CallAndRestartPushTheReturnAddress := by
  unfold Obligations.CallAndRestartPushTheReturnAddress
  refine ⟨fun b1 b2 => address_encodedAs b1 b2 (.call, 0xCD) (by simp), rst_encodedAs, fun s i target ret hform => ?_⟩
  have hexec : exec i s = .next ((s.push16 ret).jump target) := by
    obtain ⟨rfl, rfl⟩ | ⟨n, rfl, htarget, rfl⟩ := hform
    · rfl
    · rw [eq_restartTarget htarget]
      rfl
  obtain ⟨hlow, hhigh, hframe⟩ := push16_jump_stores s ret target
  exact ⟨_, hexec, rfl, rfl, hlow, hhigh, rfl, rfl, hframe⟩

/-- Settles O36: taken, the form is CALL after the draw of its condition; not taken, it moves pc alone. -/
theorem conditionalCalls : Obligations.ConditionalCalls := by
  unfold Obligations.ConditionalCalls
  rintro s b1 b2 _ i cc rfl hi
  obtain rfl : i = Instr.callOn (cat16 b2 b1) cc := by cases cc <;> simpa [Instr.callOn] using hi
  refine ⟨callOn_encodedAs b1 b2 cc, s.callIf cc (cat16 b2 b1), exec_callOn s _ cc, s.callIf_flags cc _,
    .of_draws (s.callIf_draws cc _), fun htaken => ?_, fun hnot => ?_⟩
  · rw [s.callIf_taken cc _ htaken]
    obtain ⟨hlow, hhigh, hframe⟩ := push16_jump_stores (s.flagsRead 1) (s.pc + 3) (cat16 b2 b1)
    exact ⟨rfl, rfl, hlow, hhigh, .of_flagsRead hframe⟩
  · rw [s.callIf_notTaken cc _ hnot]
    exact ⟨rfl, rfl, .of_unwritten rfl rfl rfl⟩

/-- Settles O37: a return reads the word at SP and writes pc and SP alone. -/
theorem returns : Obligations.Returns := by
  unfold Obligations.Returns
  refine ⟨.of_stage rfl fun x _ => by cases x <;> rfl, fun s => ?_, fun s i cc hi => ?_⟩
  · exact ⟨s.returnNow, rfl, s.stackTop_toNat, rfl, rfl, rfl, .of_unwritten rfl rfl rfl⟩
  · obtain rfl : i = Instr.returnOn cc := by cases cc <;> simpa [Instr.returnOn] using hi
    refine ⟨returnOn_encodedAs cc, s.returnIf cc, exec_returnOn s cc, s.returnIf_flags cc,
      .of_draws (s.returnIf_draws cc), .of_unwritten (s.returnIf_regs cc) (s.returnIf_mem cc) (s.returnIf_control cc),
      fun htaken => ?_, fun hnot => ?_⟩
    · rw [s.returnIf_taken cc htaken]
      exact ⟨s.stackTop_toNat, rfl⟩
    · rw [s.returnIf_notTaken cc hnot]
      exact ⟨rfl, rfl⟩

end Sys2Proof.Machine
end

section
/-! SUPPORT. Stack and exchange (43_stack_exchange.md R170 to R180): PUSH and POP by their pair, the flag byte of PSW,
and the exchanges with HL. -/

namespace Sys2Proof.Machine

/-! ## Encodings (30_encoding.md R79, R81) -/

theorem pushPop_encodedAs :
    ∀ row ∈ ([(.push .bc, 0xC5, .push), (.push .de, 0xD5, .push), (.push .hl, 0xE5, .push), (.push .psw, 0xF5, .push),
        (.pop .bc, 0xC1, .pop), (.pop .de, 0xD1, .pop), (.pop .hl, 0xE1, .pop), (.pop .psw, 0xF1, .pop)] :
        List (Instr × Byte × Family)), EncodedAs row.1 [row.2.1] (.masked row.2.2) := by
  intro row hrow
  fin_cases hrow <;> exact .of_stage rfl fun x _ => by cases x <;> rfl

/-- SPHL is an instruction only with `DECODE_EXTRA` (30_encoding.md R85). -/
theorem sphl_encodedAs : EncodedAs .sphl [0xF9] .exact := by
  refine .of_stage rfl fun x hw => ?_
  obtain rfl : x = true := hw
  rfl

theorem unrecognizedWithoutExtra_of_mem {op : Byte} (h : op ∈ unrecognizedBytes false) :
    UnrecognizedWithoutExtra op := by
  intro b1 b2
  rw [decode_of_unrecognizedBytes false op b1 b2 h]
  exact ⟨rfl, rfl, rfl⟩

/-! ## A pair written with its own value (10_state.md R23) -/

@[simp] theorem Regs.setBC_bc (g : Regs) : g.setBC g.bc = g := by simp [Regs.setBC, Regs.bc]
@[simp] theorem Regs.setDE_de (g : Regs) : g.setDE g.de = g := by simp [Regs.setDE, Regs.de]
@[simp] theorem Regs.setHL_hl (g : Regs) : g.setHL g.hl = g := by simp [Regs.setHL, Regs.hl]
@[simp] theorem Regs.set_a_a (g : Regs) : g.set .a g.a = g := rfl

/-! ## The flag byte (R171, R175) -/

/-- The flag byte as the sum of its bits. -/
theorem Flags.toByte_toNat (f : Flags) : f.toByte.toNat
    = f.s.toNat * 0x80 + f.z.toNat * 0x40 + f.ac.toNat * 0x10 + f.p.toNat * 0x04 + 0x02 + f.cy.toNat := by
  obtain ⟨s, z, ac, p, cy⟩ := f
  revert s z ac p cy
  decide

/-- POP PSW takes from the flag byte the flags PUSH PSW put there. -/
@[simp] theorem Flags.ofByte_toByte (f : Flags) : Flags.ofByte f.toByte = f := by
  obtain ⟨s, z, ac, p, cy⟩ := f
  revert s z ac p cy
  decide

section
variable (s : State)

theorem State.flagByte_intel (h : s.params.flagModel = .intel8080) : s.flagByte = s.flags.toByte := by
  simp [State.flagByte, h]

theorem State.flagByte_unmodelled (h : s.params.flagModel = .unmodelled) :
    s.flagByte = Config.drawByte s.draws := by simp [State.flagByte, h]

/-! ## The word at SP (R170) -/

theorem State.lo_stackTop : lo s.stackTop = s.readByte s.sp := lo_cat16 _ _
theorem State.hi_stackTop : hi s.stackTop = s.readByte (s.sp + 1) := hi_cat16 _ _

@[simp] theorem State.stackTop_push16 (w : Word) : (s.push16 w).stackTop = w :=
  State.readWord_writeWord (s.setSp (s.sp - 2)) (s.sp - 2) w

/-! ## PUSH (R172, R173) -/

/-- The state PUSH answers. -/
def State.pushed (p : StackPair) : State := ((s.stackPairRead p).push16 (s.stackPair p)).advance 1

variable (p : StackPair)

theorem exec_push : exec (.push p) s = .next (s.pushed p) := rfl

@[simp] theorem State.pushed_regs : (s.pushed p).regs = s.regs := by simp [State.pushed]
@[simp] theorem State.pushed_sp : (s.pushed p).sp = s.sp - 2 := by simp [State.pushed]
@[simp] theorem State.pushed_pc : (s.pushed p).pc = s.pc + 1 := by simp [State.pushed]
@[simp] theorem State.pushed_flags : (s.pushed p).flags = s.flags := by simp [State.pushed]
theorem State.pushed_draws : (s.pushed p).draws = (s.stackPairRead p).draws := rfl
@[simp] theorem State.pushed_params : (s.pushed p).params = s.params := by cases p <;> rfl

@[simp] theorem State.pushed_stackTop : (s.pushed p).stackTop = s.stackPair p :=
  State.stackTop_push16 (s.stackPairRead p) (s.stackPair p)

theorem State.pushed_readByte_low : (s.pushed p).readByte (s.sp - 2) = lo (s.stackPair p) := by
  rw [← s.pushed_stackTop p, State.lo_stackTop, State.pushed_sp]

theorem State.pushed_readByte_high : (s.pushed p).readByte (s.sp - 2 + 1) = hi (s.stackPair p) := by
  rw [← s.pushed_stackTop p, State.hi_stackTop, State.pushed_sp]

theorem pushed_frame : Frame s (s.pushed p) [] [s.sp - 2, s.sp - 2 + 1] := by
  cases p
  case psw => exact .of_flagsRead (push16_frame (s.flagsRead 1) (s.stackPair .psw))
  all_goals exact push16_frame s _

/-! ## POP (R174, R175) -/

/-- The state POP answers. -/
def State.popped : State := (s.dropTop.setStackPair p s.stackTop).advance 1

theorem exec_pop : exec (.pop p) s = .next (s.popped p) := rfl

@[simp] theorem State.popped_sp : (s.popped p).sp = s.sp + 2 := by simp [State.popped]
@[simp] theorem State.popped_readByte (a : Word) : (s.popped p).readByte a = s.readByte a := by simp [State.popped]

theorem popped_frame : Frame s (s.popped p) (stackPairRegs p) [] :=
  ⟨exec_keepsRegsBut (exec_pop s p), fun a _ => s.popped_readByte p a,
    (keepsControl_iff _ _).2 (by simp [State.popped])⟩

/-- POP PSW writes the flags of the byte at SP, where there are flags. -/
theorem popped_psw_flagsBecome {P : Flags → Prop} (h : P (Flags.ofByte (s.readByte s.sp))) :
    FlagsBecome s (s.popped .psw) P := by
  rw [← s.lo_stackTop] at h
  refine ⟨fun hm => ?_, (s.dropTop.setReg .a (hi s.stackTop)).setFlags_flags_unmodelled _⟩
  have hflags : (s.popped .psw).flags = Flags.ofByte (lo s.stackTop) :=
    (s.dropTop.setReg .a (hi s.stackTop)).setFlags_flags_intel _ hm
  rwa [hflags]

/-! ## PUSH, then POP (R180) -/

theorem State.popped_pushed_regs : ((s.pushed p).popped p).regs = s.regs := by
  cases p <;> simp [State.popped, State.setStackPair, State.stackPair]

theorem State.popped_pushed_flags (hm : s.params.flagModel = .intel8080) :
    ((s.pushed p).popped p).flags = s.flags := by
  cases p
  case psw =>
    simp [State.popped, State.setStackPair, State.stackPair, State.setFlags_flags_intel, State.flagByte_intel, hm]
  all_goals rfl

/-! ## A word written (20_memory.md R52) -/

theorem keepsMemoryBut_writeWord (a w : Word) : KeepsMemoryBut s (s.writeWord a w) [a, a + 1] := by
  intro b hb
  obtain ⟨hlow, hhigh⟩ : b ≠ a ∧ b ≠ a + 1 := by simpa using hb
  exact s.readByte_writeWord_other a w b hlow hhigh

end

/-! ## The statements -/

/-- Settles O28: POP reads back the word PUSH stored, and a pair written with its own value is unchanged. -/
theorem popUndoesPush : Obligations.PopUndoesPush := by
  unfold Obligations.PopUndoesPush
  rintro s t p ⟨⟩
  have hhigh : (s.pushed p).readByte (s.sp - 1) = hi (s.stackPair p) := by
    rw [← s.pushed_readByte_high p]
    congr 1
    bv_omega
  have hlow := s.pushed_readByte_low p
  refine ⟨(s.pushed p).popped p, rfl, ?_, s.popped_pushed_regs p, s.popped_pushed_flags p,
    (s.pushed p).popped_readByte p, ?_, ?_, ?_, ?_⟩
  · rw [State.popped_sp, State.pushed_sp, BitVec.sub_add_cancel]
  · rw [State.popped_readByte, hhigh]
    cases p <;> exact hi_cat16 _ _
  all_goals
    rintro rfl
    rw [State.popped_readByte, hlow]
    exact lo_cat16 _ _

/-- Settles O38, from what PUSH leaves for any pair. -/
theorem pushStoresThePair : Obligations.PushStoresThePair := by
  unfold Obligations.PushStoresThePair
  refine ⟨pushPop_encodedAs (.push .bc, 0xC5, .push) (by simp), pushPop_encodedAs (.push .de, 0xD5, .push) (by simp),
    pushPop_encodedAs (.push .hl, 0xE5, .push) (by simp), fun s p high low hp => ?_⟩
  obtain ⟨hpair, hread⟩ : s.stackPair p = cat16 high low ∧ s.stackPairRead p = s := by
    simp only [List.mem_cons, List.not_mem_nil, or_false, Prod.mk.injEq] at hp
    obtain ⟨rfl, rfl, rfl⟩ | ⟨rfl, rfl, rfl⟩ | ⟨rfl, rfl, rfl⟩ := hp <;> exact ⟨rfl, rfl⟩
  refine ⟨s.pushed p, exec_push s p, s.pushed_sp p, ?_, ?_, s.pushed_pc p, s.pushed_flags p,
    (s.pushed_draws p).trans (congrArg State.draws hread), pushed_frame s p⟩
  · rw [State.pushed_readByte_low, hpair, lo_cat16]
  · rw [State.pushed_readByte_high, hpair, hi_cat16]

/-- Settles O39: the word PUSH PSW stores is A over the flag byte. -/
theorem pushPswStoresAAndTheFlagByte : Obligations.PushPswStoresAAndTheFlagByte := by
  unfold Obligations.PushPswStoresAAndTheFlagByte
  refine ⟨pushPop_encodedAs (.push .psw, 0xF5, .push) (by simp), fun s => ?_⟩
  have hlow : (s.pushed .psw).readByte (s.sp - 2) = s.flagByte := (s.pushed_readByte_low .psw).trans (lo_cat16 _ _)
  have hhigh : (s.pushed .psw).readByte (s.sp - 2 + 1) = s.regs.a := (s.pushed_readByte_high .psw).trans (hi_cat16 _ _)
  refine ⟨s.pushed .psw, rfl, rfl, hhigh, fun hm => ?_, fun hm => ?_, rfl, rfl, .of_draws rfl, pushed_frame s .psw⟩
  · rw [hlow, s.flagByte_intel hm, Flags.toByte_toNat]
  · rw [hlow, s.flagByte_unmodelled hm]

/-- Settles O40: POP writes the pair with the word at SP. -/
theorem popLoadsThePair : Obligations.PopLoadsThePair := by
  unfold Obligations.PopLoadsThePair
  refine ⟨pushPop_encodedAs (.pop .bc, 0xC1, .pop) (by simp), pushPop_encodedAs (.pop .de, 0xD1, .pop) (by simp),
    pushPop_encodedAs (.pop .hl, 0xE1, .pop) (by simp), fun s p high low hp => ?_⟩
  simp only [List.mem_cons, List.not_mem_nil, or_false, Prod.mk.injEq] at hp
  obtain ⟨rfl, rfl, rfl⟩ | ⟨rfl, rfl, rfl⟩ | ⟨rfl, rfl, rfl⟩ := hp <;>
    exact ⟨s.popped _, rfl, rfl, s.lo_stackTop, s.hi_stackTop, rfl, rfl, rfl, popped_frame s _⟩

/-- Settles O41: POP PSW writes A and the flags of the byte at SP. -/
theorem popPswLoadsAAndTheFlags : Obligations.PopPswLoadsAAndTheFlags := by
  unfold Obligations.PopPswLoadsAAndTheFlags
  exact ⟨pushPop_encodedAs (.pop .psw, 0xF1, .pop) (by simp), fun s => ⟨s.popped .psw, rfl, rfl, s.hi_stackTop,
    popped_psw_flagsBecome s ⟨rfl, rfl, rfl, rfl, rfl⟩, rfl, rfl, popped_frame s .psw⟩⟩

/-- Settles O42: each form reads what it exchanges or moves in the state before it. -/
theorem exchangesAndSphl : Obligations.ExchangesAndSphl := by
  unfold Obligations.ExchangesAndSphl
  refine ⟨.of_stage rfl fun x _ => by cases x <;> rfl, .of_stage rfl fun x _ => by cases x <;> rfl, sphl_encodedAs,
    unrecognizedWithoutExtra_of_mem (by decide), fun s => ?_, fun s => ?_, fun s => ?_⟩
  · have hlow := (s.readByte_writeWord_low s.sp s.regs.hl).trans (lo_cat16 _ _)
    have hhigh := (s.readByte_writeWord_high s.sp s.regs.hl).trans (hi_cat16 _ _)
    exact ⟨_, rfl, s.lo_stackTop, s.hi_stackTop, hlow, hhigh, rfl, rfl, rfl, rfl,
      exec_keepsRegsBut (i := .xthl) rfl, keepsMemoryBut_writeWord s s.sp s.regs.hl, (keepsControl_iff _ _).2 rfl⟩
  · exact ⟨_, rfl, hi_cat16 _ _, lo_cat16 _ _, hi_cat16 _ _, lo_cat16 _ _, rfl, rfl, rfl, rfl,
      exec_keepsRegsBut (i := .xchg) rfl, fun _ _ => rfl, (keepsControl_iff _ _).2 rfl⟩
  · exact ⟨_, rfl, rfl, rfl, rfl, rfl, .of_unwritten rfl rfl rfl⟩

end Sys2Proof.Machine
end

section
/-! SUPPORT. Rotate, complement, carry and decimal adjust (44_rotate_carry.md R185 to R192): the bits of a rotated byte,
a write of CY alone, and the correction of DAA. -/

namespace Sys2Proof.Machine

/-! ## Encodings (30_encoding.md R79) -/

theorem rotateCarry_encodedAs :
    ∀ row ∈ ([(.rlc, 0x07), (.rrc, 0x0F), (.ral, 0x17), (.rar, 0x1F), (.cma, 0x2F), (.stc, 0x37), (.cmc, 0x3F)] :
        List (Instr × Byte)), EncodedAs row.1 [row.2] .exact := by
  intro row hrow
  fin_cases hrow <;> exact .of_stage rfl fun x _ => by cases x <;> rfl

/-- DAA is an instruction only with `DECODE_EXTRA` (30_encoding.md R85). -/
theorem daa_encodedAs : EncodedAs .daa [0x27] .exact := by
  refine .of_stage rfl fun x hw => ?_
  obtain rfl : x = true := hw
  rfl

/-! ## The bits of a rotated byte (R185 to R188) -/

section
variable (a : Byte) (b : Bool) {k : Nat}

theorem getLsbD_bitAt {n : Nat} (hk : k < 8) : (bitAt b n).getLsbD k = (decide (k = n) && b) := by
  rcases lt_trichotomy k n with h | rfl | h
  · simp [bitAt, h, h.ne]
  · simp [bitAt, hk]
  · have hpos : k - n ≠ 0 := Nat.sub_ne_zero_of_lt h
    simp [bitAt, h.ne', hpos]

theorem getLsbD_shiftIntoLow_succ (hk : k < 7) : (shiftIntoLow a b).value.getLsbD (k + 1) = a.getLsbD k := by
  have hk' : k + 1 < 8 := Nat.succ_lt_succ hk
  rw [shiftIntoLow, BitVec.getLsbD_or, BitVec.getLsbD_shiftLeft, getLsbD_bitAt b hk']
  simp [hk']

theorem getLsbD_shiftIntoLow_zero : (shiftIntoLow a b).value.getLsbD 0 = b := by
  rw [shiftIntoLow, BitVec.getLsbD_or, getLsbD_bitAt b (by decide)]
  simp

theorem getLsbD_shiftIntoHigh (hk : k < 7) : (shiftIntoHigh a b).value.getLsbD k = a.getLsbD (k + 1) := by
  rw [shiftIntoHigh, BitVec.getLsbD_or, getLsbD_bitAt b (hk.trans (by decide))]
  simp [hk.ne, Nat.add_comm 1 k]

theorem getLsbD_shiftIntoHigh_seven : (shiftIntoHigh a b).value.getLsbD 7 = b := by
  rw [shiftIntoHigh, BitVec.getLsbD_or, getLsbD_bitAt b (by decide)]
  simp

end

/-! ## CY alone written (40_execution_engine.md R119, R123) -/

section
variable (s : State)

theorem setCarry_onlyCarryBecomes (v : Bool) : OnlyCarryBecomes s (s.setCarry v) v := by
  refine ⟨fun hm => ?_, s.setFlags_flags_unmodelled _⟩
  rw [s.setCarry_flags_intel v hm]
  exact ⟨rfl, rfl, rfl, rfl, rfl⟩

theorem rotated_onlyCarryBecomes (r : RotateResult) : OnlyCarryBecomes s (s.rotated r) r.carry :=
  setCarry_onlyCarryBecomes (s.setReg .a r.value) r.carry

theorem rotated_frame (r : RotateResult) : Frame s (s.rotated r) [.a] [] :=
  ⟨keepsRegsBut_of_set s rfl, fun _ _ => rfl, (keepsControl_iff _ _).2 rfl⟩

/-- What the four rotates share: CY alone of the flags, A alone of the rest, after the flags they read. -/
theorem flagsRead_rotated (n : Nat) (r : RotateResult) :
    OnlyCarryBecomes s ((s.flagsRead n).rotated r) r.carry ∧ ((s.flagsRead n).rotated r).pc = s.pc + 1
      ∧ ((s.flagsRead n).rotated r).sp = s.sp ∧ DrawsFlags s ((s.flagsRead n).rotated r) n
      ∧ Frame s ((s.flagsRead n).rotated r) [.a] [] :=
  ⟨rotated_onlyCarryBecomes (s.flagsRead n) r, rfl, rfl, s.flagsRead_drawsFlags n, .of_flagsRead (rotated_frame _ r)⟩

theorem State.carry_intel (h : s.params.flagModel = .intel8080) : s.carry = s.flags.cy := by
  simp [State.carry, State.flagBit, h]

/-- CMC writes what it read of CY, complemented: a flag where there are flags, and nothing where there are none. -/
theorem setCarry_not_carry_onlyCarryBecomes : OnlyCarryBecomes s (s.setCarry (!s.carry)) (!s.flags.cy) := by
  obtain ⟨hintel, hunmodelled⟩ := setCarry_onlyCarryBecomes s (!s.carry)
  exact ⟨fun hm => s.carry_intel hm ▸ hintel hm, hunmodelled⟩

end

/-! ## The correction of DAA (R192) -/

section
variable (a : Byte) (ac cy : Bool)

/-- The part of DAA's correction for the low digit. -/
def daaLow : Nat := if 9 < lowNibble a ∨ ac = true then 6 else 0

/-- The part of DAA's correction for the high digit. -/
def daaHigh : Nat := if 0x99 < a.toNat ∨ cy = true then 0x60 else 0

theorem daaCorrection_toNat : (daaCorrection a ac cy).toNat = daaHigh a cy + daaLow a ac := by
  simp only [daaCorrection, daaLow, daaHigh, Bool.or_eq_true, decide_eq_true_eq]
  split <;> split <;> rfl

theorem lowNibble_daaCorrection : lowNibble (daaCorrection a ac cy) = daaLow a ac := by
  rw [lowNibble, daaCorrection_toNat, daaLow, daaHigh]
  split <;> split <;> rfl

theorem daaHigh_eq_iff : daaHigh a cy = 0x60 ↔ 0x99 < a.toNat ∨ cy = true := by
  by_cases h : 0x99 < a.toNat ∨ cy = true <;> simp [daaHigh, h]

theorem daa8_value_toNat : (daa8 a ac cy).value.toNat = (a.toNat + daaHigh a cy + daaLow a ac) % 256 := by
  rw [daa8, BitVec.toNat_add, daaCorrection_toNat, Nat.add_assoc]

theorem daa8_cy : (daa8 a ac cy).flags.cy = (cy || decide (daaHigh a cy = 0x60)) := by
  rw [Bool.eq_iff_iff]
  cases cy <;> simp [daa8, daaHigh_eq_iff]

theorem daa8_ac : (daa8 a ac cy).flags.ac = decide (15 < a.toNat % 16 + daaLow a ac) := by
  rw [← lowNibble_daaCorrection a ac cy]
  rfl

theorem daa8_szpSeen : SzpSeen (daa8 a ac cy).flags (daa8 a ac cy).value := szpSeen_intro _ _ rfl rfl rfl

end

/-- DAA puts its ALU result into A, with the CY and the AC it reads (40_execution_engine.md R119; log 16). -/
theorem exec_daa (s : State) : exec .daa s
    = .next ((s.flagsRead 2).accumulate (daa8 s.regs.a (s.flagBit 1 (fun f => f.ac)) s.carry) 1) := rfl

/-! ## The statements -/

/-- Settles O43: a rotate puts A, shifted with the bit that enters, into A and the bit shifted out into CY. -/
theorem rotatesMoveEveryBit : Obligations.RotatesMoveEveryBit := by
  unfold Obligations.RotatesMoveEveryBit
  refine ⟨rotateCarry_encodedAs (.rlc, 0x07) (by simp), rotateCarry_encodedAs (.rrc, 0x0F) (by simp),
    rotateCarry_encodedAs (.ral, 0x17) (by simp), rotateCarry_encodedAs (.rar, 0x1F) (by simp),
    fun s i low n hform => ?_, fun s i high n hform => ?_⟩
  · have hexec : exec i s = .next ((s.flagsRead n).rotated (shiftIntoLow s.regs.a low)) := by
      simp only [List.mem_cons, Prod.mk.injEq, List.not_mem_nil, or_false, ← s.carry_eq] at hform
      obtain ⟨rfl, rfl, rfl⟩ | ⟨rfl, rfl, rfl⟩ := hform
      · rw [s.flagsRead_zero]; rfl
      · rfl
    exact ⟨_, hexec, fun _ => getLsbD_shiftIntoLow_succ _ _, getLsbD_shiftIntoLow_zero _ _, flagsRead_rotated s n _⟩
  · have hexec : exec i s = .next ((s.flagsRead n).rotated (shiftIntoHigh s.regs.a high)) := by
      simp only [List.mem_cons, Prod.mk.injEq, List.not_mem_nil, or_false, ← s.carry_eq] at hform
      obtain ⟨rfl, rfl, rfl⟩ | ⟨rfl, rfl, rfl⟩ := hform
      · rw [s.flagsRead_zero]; rfl
      · rfl
    exact ⟨_, hexec, fun _ => getLsbD_shiftIntoHigh _ _, getLsbD_shiftIntoHigh_seven _ _, flagsRead_rotated s n _⟩

/-- Settles O44: CMA writes A alone, STC and CMC write CY alone. -/
theorem complementAndCarryForms : Obligations.ComplementAndCarryForms := by
  unfold Obligations.ComplementAndCarryForms
  refine ⟨rotateCarry_encodedAs (.cma, 0x2F) (by simp), rotateCarry_encodedAs (.stc, 0x37) (by simp),
    rotateCarry_encodedAs (.cmc, 0x3F) (by simp), fun s => ?_, fun s => ?_, fun s => ?_⟩
  · exact ⟨(s.setReg .a (~~~s.regs.a)).advance 1, rfl, BitVec.toNat_not, rfl, rfl, rfl, rfl,
      keepsRegsBut_of_set s rfl, fun _ _ => rfl, (keepsControl_iff _ _).2 rfl⟩
  · exact ⟨(s.setCarry true).advance 1, rfl, setCarry_onlyCarryBecomes s true, rfl, rfl, rfl,
      .of_unwritten rfl rfl rfl⟩
  · exact ⟨((s.flagsRead 1).setCarry (!s.carry)).advance 1, rfl, setCarry_not_carry_onlyCarryBecomes s, rfl, rfl,
      .of_draws rfl, .of_unwritten rfl rfl rfl⟩

/-- Settles O45: CY and AC are the flags or the draws DAA reads, and its ALU result goes into A. -/
theorem decimalAdjust : Obligations.DecimalAdjust := by
  unfold Obligations.DecimalAdjust
  refine ⟨daa_encodedAs, unrecognizedWithoutExtra_of_mem (by decide),
    fun s cy ac low high hintel hunmodelled hlow hhigh => ?_⟩
  obtain ⟨rfl, rfl⟩ : cy = s.carry ∧ ac = s.flagBit 1 (fun f => f.ac) := by
    cases hm : s.params.flagModel with
    | intel8080 => simpa [State.carry, State.flagBit, hm] using hintel hm
    | unmodelled => simpa [State.carry, State.flagBit, hm] using hunmodelled hm
  obtain rfl : low = daaLow s.regs.a _ := hlow
  obtain rfl : high = daaHigh s.regs.a _ := hhigh
  exact ⟨_, exec_daa s, daa8_value_toNat _ _ _,
    .of_flagsRead (accumulate_flagsBecome _ _ _ ⟨daa8_cy _ _ _, daa8_ac _ _ _, daa8_szpSeen _ _ _⟩), rfl, rfl,
    .of_draws rfl, .of_flagsRead (accumulate_frame _ _ _)⟩

end Sys2Proof.Machine
end

section
/-! SUPPORT. Compare, increment and decrement (45_alu.md R221 to R227): a compare writes flags alone, INR and DCR write
the operand they read and all flags but CY. -/

namespace Sys2Proof.Machine

/-! ## Encodings (30_encoding.md R79, R81, R96) -/

theorem cmp_encodedAs (r : Reg) : EncodedAs (.cmp (.reg r)) [0xB8 + selector (.reg r)] (.masked .cmp) := by
  cases r <;> exact .of_stage rfl fun x _ => by cases x <;> rfl

/-- CMP M is an entry of its own, not of its family (30_encoding.md R80, R96). -/
theorem cmpM_encodedAs : EncodedAs (.cmp .mem) [0xBE] .exact := .of_stage rfl fun x _ => by cases x <;> rfl

/-- The families with the operand they write in bits 5 to 3 and no immediate byte (30_encoding.md R81). -/
theorem destination_encodedAs (dst : Operand) :
    ∀ row ∈ ([(.inr, 0x04, .inr), (.dcr, 0x05, .dcr)] : List ((Operand → Instr) × Byte × Family)),
      EncodedAs (row.1 dst) [row.2.1 + 8 * selector dst] (.masked row.2.2) := by
  intro row hrow
  fin_cases hrow <;> (rcases dst with (_ | _ | _ | _ | _ | _ | _) | _) <;>
    exact .of_stage rfl fun x _ => by cases x <;> rfl

/-! ## Flags written over a state with the flags of `s` (40_execution_engine.md R119) -/

theorem setFlags_flagsBecome {s u : State} {f : Flags} {P : Flags → Prop} (hparams : u.params = s.params)
    (hflags : u.flags = s.flags) (h : P f) : FlagsBecome s (u.setFlags f) P := by
  refine ⟨fun hm => ?_, fun hm => ?_⟩
  · rwa [u.setFlags_flags_intel f (hparams ▸ hm)]
  · rw [u.setFlags_flags_unmodelled f (hparams ▸ hm), hflags]

theorem compared_flagsBecome (s : State) (r : AluResult) (n : Word) {P : Flags → Prop} (h : P r.flags) :
    FlagsBecome s (s.compared r n) P := setFlags_flagsBecome (u := s) rfl rfl h

/-! ## The difference a compare discards (40_execution_engine.md R116; R221 to R223) -/

section
variable {r q a b : Byte} {bin : Bool}

theorem IsDifference.unique (hr : IsDifference r a b bin) (hq : IsDifference q a b bin) : r = q :=
  BitVec.eq_of_toNat_eq (Int.ofNat_inj.1 (hr.trans hq.symm))

theorem IsDifference.toNat_eq_zero_iff (h : IsDifference r a b false) : r.toNat = 0 ↔ a = b := by
  have hdiff : (r.toNat : Int) = ((a.toNat : Int) - b.toNat) % 256 := by simpa [IsDifference] using h
  have ha := a.isLt
  have hb := b.isLt
  rw [← BitVec.toNat_inj]
  omega

/-- A compare's flags tell its operands apart: Z iff equal, CY iff less. -/
theorem sub8_compareFlags (h : IsDifference r a b false) :
    DifferenceFlags (sub8 a b false).flags a b false r ∧ (sub8 a b false).flags.z = decide (a = b)
      ∧ (sub8 a b false).flags.cy = decide (a.toNat < b.toNat) := by
  obtain rfl : r = (sub8 a b false).value := h.unique (sub8_isDifference a b false)
  have hflags := sub8_differenceFlags a b false
  have ⟨hcy, _, _, hz, _⟩ := hflags
  exact ⟨hflags, hz.trans (decide_eq_decide.2 h.toNat_eq_zero_iff), hcy⟩

end

/-! ## A byte plus or minus 1 (R224, R226) -/

/-- `r` is INR's or DCR's result for the byte `v` and the flags `f`: `k` added, CY kept, AC as given. -/
def IsStepResult (r : AluResult) (f : Flags) (v : Byte) (k : Nat) (ac : Bool) : Prop :=
  r.value.toNat = (v.toNat + k) % 256 ∧ r.flags.cy = f.cy ∧ r.flags.ac = ac ∧ SzpSeen r.flags r.value

section
variable (f : Flags) (v : Byte)

theorem inc8_isStepResult : IsStepResult (inc8 f v) f v 1 (decide (v.toNat % 16 = 15)) :=
  ⟨BitVec.toNat_add v 1, rfl, rfl, szpSeen_intro _ _ rfl rfl rfl⟩

/-- Subtracting 1 is adding 0xFF (R226). -/
theorem dec8_isStepResult : IsStepResult (dec8 f v) f v 255 (decide (v.toNat % 16 ≠ 0)) := by
  have hvalue : v - 1 = v + 255 := BitVec.sub_eq_add_neg v 1
  refine ⟨(congrArg BitVec.toNat hvalue).trans (BitVec.toNat_add v 255), rfl, ?_, szpSeen_intro _ _ rfl rfl rfl⟩
  rw [Bool.eq_iff_iff]
  simp [dec8, lowNibble]

end

/-! ## A result back into its operand (R224 to R227) -/

section
variable (s : State) (d : Operand) (r : AluResult)

theorem keepsMemoryBut_setOperand (v : Byte) : KeepsMemoryBut s (s.setOperand d v) (s.operandAddr d).toList := by
  intro a ha
  rw [s.readByte_setOperand]
  refine if_neg ?_
  rintro ⟨rfl, rfl⟩
  exact ha (List.mem_singleton_self _)

/-- A form that updates its operand writes the one register or byte its operand names. -/
theorem updated_frame : Frame s (s.updated d r) (operandRegs d) (s.operandAddr d).toList :=
  ⟨keepsRegsBut_setOperand s d r.value, keepsMemoryBut_setOperand s d r.value, (keepsControl_iff _ _).2 (by simp)⟩

theorem updated_flagsBecome {P : Flags → Prop} (h : P r.flags) : FlagsBecome s (s.updated d r) P :=
  setFlags_flagsBecome (s.setOperand_params d r.value) (s.setOperand_flags d r.value) h

theorem operandSeen_updated : operandSeen (s.updated d r) d = r.value := by
  cases d with
  | reg q => exact s.regs.get_set_same q r.value
  | mem => exact s.readByte_writeByte_same s.regs.hl r.value

/-- What INR and DCR share: their result in the operand, its flags but CY, pc + 1, and nothing else. -/
theorem updated_of_isStepResult {k : Nat} {ac : Bool} (h : IsStepResult r s.flags (operandSeen s d) k ac) :
    (operandSeen (s.updated d r) d).toNat = ((operandSeen s d).toNat + k) % 256
      ∧ FlagsBecome s (s.updated d r)
          (fun f => f.cy = s.flags.cy ∧ f.ac = ac ∧ SzpSeen f (operandSeen (s.updated d r) d))
      ∧ (s.updated d r).pc = s.pc + 1 ∧ (s.updated d r).sp = s.sp ∧ (s.updated d r).draws = s.draws
      ∧ Frame s (s.updated d r) (operandRegs d) (s.operandAddr d).toList := by
  obtain ⟨hvalue, hflags⟩ := h
  rw [operandSeen_updated]
  exact ⟨hvalue, updated_flagsBecome s d r hflags, s.updated_pc d r, s.updated_sp d r, s.updated_draws d r,
    updated_frame s d r⟩

end

/-! ## The statements -/

/-- Settles O48: a compare writes the flags of the one difference of A and its operand. -/
theorem compareFormsSetFlagsOnly : Obligations.CompareFormsSetFlagsOnly := by
  unfold Obligations.CompareFormsSetFlagsOnly
  refine ⟨cmp_encodedAs, cmpM_encodedAs, fun imm => immediate_encodedAs imm (.cpi, 0xFE) (by simp),
    fun s src imm v r i len hform hr => ?_⟩
  have hexec : exec i s = .next (s.compared (sub8 s.regs.a v false) len) := by
    simp only [List.mem_cons, Prod.mk.injEq, List.not_mem_nil, or_false, ← s.operand_eq] at hform
    obtain ⟨rfl, rfl, rfl⟩ | ⟨rfl, rfl, rfl⟩ := hform
    · rfl
    · rfl
  exact ⟨_, hexec, compared_flagsBecome s _ len (sub8_compareFlags hr), rfl, rfl, rfl, .of_unwritten rfl rfl rfl⟩

/-- Settles O50: the operand is the register the form names. -/
theorem incrementDecrementRegister : Obligations.IncrementDecrementRegister := by
  unfold Obligations.IncrementDecrementRegister
  intro s r
  refine ⟨destination_encodedAs (.reg r) (.inr, 0x04, .inr) (by simp),
    destination_encodedAs (.reg r) (.dcr, 0x05, .dcr) (by simp), ⟨_, rfl, ?_⟩, ⟨_, rfl, ?_⟩⟩
  · exact updated_of_isStepResult s (.reg r) _ (inc8_isStepResult _ _)
  · exact updated_of_isStepResult s (.reg r) _ (dec8_isStepResult _ _)

/-- Settles O51: the operand is the byte at HL, and neither form writes H or L. -/
theorem incrementDecrementMemory : Obligations.IncrementDecrementMemory := by
  unfold Obligations.IncrementDecrementMemory
  refine ⟨destination_encodedAs .mem (.inr, 0x04, .inr) (by simp),
    destination_encodedAs .mem (.dcr, 0x05, .dcr) (by simp), ?_⟩
  rintro s _ _ rfl rfl
  refine ⟨⟨_, rfl, ?_⟩, ⟨_, rfl, ?_⟩⟩
  · exact updated_of_isStepResult s .mem _ (inc8_isStepResult _ _)
  · exact updated_of_isStepResult s .mem _ (dec8_isStepResult _ _)

end Sys2Proof.Machine
end

section
/-! SUPPORT. Register pairs (46_register_pair.md R230 to R234): a pair written, the carry out of its sum with HL, and a
pair plus or minus 1. -/

namespace Sys2Proof.Machine

/-! ## Encodings (30_encoding.md R78, R81) -/

section
variable (p : Pair)

theorem lxi_encodedAs (b1 b2 : Byte) :
    EncodedAs (.lxi p (cat16 b2 b1)) [0x01 + 16 * pairSelector p, b1, b2] (.masked .lxi) := by
  refine .of_first_byte ?_ fun x => by cases x <;> cases p <;> rfl
  have hoperands : (Instr.lxi p (cat16 b2 b1)).operandBytes = [b1, b2] := by simp [Instr.operandBytes]
  rw [encode, hoperands]
  cases p <;> rfl

/-- The families with a pair and no immediate. -/
theorem pair_encodedAs :
    ∀ row ∈ ([(.dad, 0x09, .dad), (.inx, 0x03, .inx), (.dcx, 0x0B, .dcx)] : List ((Pair → Instr) × Byte × Family)),
      EncodedAs (row.1 p) [row.2.1 + 16 * pairSelector p] (.masked row.2.2) := by
  intro row hrow
  fin_cases hrow <;> cases p <;> exact .of_stage rfl fun x _ => by cases x <;> rfl

end

/-! ## A pair written (40_execution_engine.md R114) -/

section
variable (s : State) (p : Pair)

theorem setPair_frame (w : Word) : Frame s (s.setPair p w) (pairRegs p) [] :=
  ⟨keepsRegsBut_setPair s p w, fun a _ => s.readByte_setPair a p w, (keepsControl_iff _ _).2 (s.setPair_control p w)⟩

/-- What a form that writes a pair alone leaves of the rest: SP where it is not the pair, the flags, the draws. -/
theorem setPair_advance_keeps (w n : Word) :
    (p ≠ .sp → ((s.setPair p w).advance n).sp = s.sp) ∧ ((s.setPair p w).advance n).pc = s.pc + n
      ∧ ((s.setPair p w).advance n).flags = s.flags ∧ ((s.setPair p w).advance n).draws = s.draws
      ∧ Frame s ((s.setPair p w).advance n) (pairRegs p) [] :=
  ⟨s.setPair_sp_other p w, congrArg (· + n) (s.setPair_pc p w), s.setPair_flags p w, s.setPair_draws p w,
    setPair_frame s p w⟩

/-! ## The forms, as writes of the pair a statement sees (R231 to R233) -/

/-- Bit 16 of the sum of two words is its carry. -/
theorem testBit_sixteen (a b : Word) : (a.toNat + b.toNat).testBit 16 = decide (65536 ≤ a.toNat + b.toNat) := by
  have ha := a.isLt
  have hb := b.isLt
  rw [Nat.testBit_eq_decide_div_mod_eq, decide_eq_decide]
  omega

theorem exec_dad : exec (.dad p) s
    = .next (((s.setPair .hl (pairSeen s .hl + pairSeen s p)).setCarry
        (decide (65536 ≤ (pairSeen s .hl).toNat + (pairSeen s p).toNat))).advance 1) := by
  rw [← testBit_sixteen, ← s.pair_eq p, BitVec.add_def]
  rfl

theorem exec_inx : exec (.inx p) s = .next ((s.setPair p (pairSeen s p + 1)).advance 1) := by
  rw [← s.pair_eq p]
  rfl

/-- Subtracting 1 is adding 0xFFFF (R233). -/
theorem exec_dcx : exec (.dcx p) s = .next ((s.setPair p (pairSeen s p + 65535)).advance 1) := by
  have hvalue : s.pair p - 1 = s.pair p + 65535 := BitVec.sub_eq_add_neg _ 1
  rw [← s.pair_eq p, ← hvalue]
  rfl

theorem pairSeen_setPair_add_toNat (v w n : Word) :
    (pairSeen ((s.setPair p (v + w)).advance n) p).toNat = (v.toNat + w.toNat) % 65536 := by
  rw [pairSeen_advance, pairSeen_setPair, BitVec.toNat_add]

end

/-! ## The statements -/

/-- Settles O52: LXI writes the pair alone, with its immediate. -/
theorem lxiLoadsThePair : Obligations.LxiLoadsThePair := by
  unfold Obligations.LxiLoadsThePair
  intro s p b1 b2
  exact ⟨lxi_encodedAs p b1 b2, _, rfl, pairSeen_setPair s p _, setPair_advance_keeps s p _ 3⟩

/-- Settles O53: DAD writes HL with the sum, then CY alone of the flags. -/
theorem dadAddsIntoHl : Obligations.DadAddsIntoHl := by
  unfold Obligations.DadAddsIntoHl
  intro s p
  refine ⟨pair_encodedAs p (.dad, 0x09, .dad) (by simp), _, exec_dad s p, pairSeen_setPair_add_toNat s .hl _ _ 1, ?_⟩
  exact ⟨setCarry_onlyCarryBecomes (s.setPair .hl _) _, rfl, rfl, rfl, setPair_frame s .hl _⟩

/-- Settles O54: INX adds 1 to the pair and DCX 0xFFFF, and each writes the pair alone. -/
theorem inxAndDcxStepThePair : Obligations.InxAndDcxStepThePair := by
  unfold Obligations.InxAndDcxStepThePair
  intro s p
  refine ⟨pair_encodedAs p (.inx, 0x03, .inx) (by simp), pair_encodedAs p (.dcx, 0x0B, .dcx) (by simp),
    ⟨_, exec_inx s p, ?_⟩, ⟨_, exec_dcx s p, ?_⟩⟩
  · exact ⟨pairSeen_setPair_add_toNat s p _ 1 1, setPair_advance_keeps s p _ 1⟩
  · exact ⟨pairSeen_setPair_add_toNat s p _ 65535 1, setPair_advance_keeps s p _ 1⟩

end Sys2Proof.Machine
end

section
/-! SUPPORT. Data transfer (47_load_store.md R240 to R251): each form writes one register, one byte of memory, HL, or one
word of memory, with a value read in the state before it; and a load reads back the byte or word a store wrote. -/

namespace Sys2Proof.Machine

/-! ## Encodings (30_encoding.md R77, R78, R81) -/

/-- For MOV M,M the claim is void: it is no instruction, and its byte is the entry HLT (30_encoding.md R80). -/
theorem mov_encodedAs (dst src : Operand) :
    EncodedAs (.mov dst src) [0x40 + 8 * selector dst + selector src] (.masked .mov) := by
  rcases dst with (_ | _ | _ | _ | _ | _ | _) | _ <;> rcases src with (_ | _ | _ | _ | _ | _ | _) | _
  case mem.mem => exact .of_stage rfl fun x hw => absurd hw Bool.false_ne_true
  all_goals exact .of_stage rfl fun x _ => by cases x <;> rfl

theorem mvi_encodedAs (dst : Operand) (imm : Byte) :
    EncodedAs (.mvi dst imm) [0x06 + 8 * selector dst, imm] (.masked .mvi) := by
  rcases dst with (_ | _ | _ | _ | _ | _ | _) | _ <;> exact .of_first_byte rfl fun x => by cases x <;> rfl

theorem index_encodedAs :
    ∀ row ∈ ([(.ldax .bc, 0x0A, .ldax), (.ldax .de, 0x1A, .ldax), (.stax .bc, 0x02, .stax), (.stax .de, 0x12, .stax)] :
        List (Instr × Byte × Family)), EncodedAs row.1 [row.2.1] (.masked row.2.2) := by
  intro row hrow
  fin_cases hrow <;> exact .of_stage rfl fun x _ => by cases x <;> rfl

/-! ## The forms, as writes of the value a statement sees (R240, R241, R249, R250) -/

section
variable (s : State)

theorem exec_mov_reg (r : Reg) (src : Operand) :
    exec (.mov (.reg r) src) s = .next ((s.setReg r (operandSeen s src)).advance 1) := by
  rw [← s.operand_eq src]
  rfl

theorem exec_ldax (p : IndexPair) : exec (.ldax p) s = .next ((s.setReg .a (s.readByte (indexSeen s p))).advance 1) := by
  rw [← s.indexAddr_eq p]
  rfl

theorem exec_stax (p : IndexPair) : exec (.stax p) s = .next ((s.writeByte (indexSeen s p) s.regs.a).advance 1) := by
  rw [← s.indexAddr_eq p]
  rfl

/-! ## What a form that writes one register, one byte or one word leaves of the rest -/

theorem setReg_advance_writes (r : Reg) (v : Byte) (n : Word) :
    ((s.setReg r v).advance n).regs.get r = v ∧ ((s.setReg r v).advance n).pc = s.pc + n
      ∧ ((s.setReg r v).advance n).sp = s.sp ∧ ((s.setReg r v).advance n).flags = s.flags
      ∧ ((s.setReg r v).advance n).draws = s.draws ∧ Frame s ((s.setReg r v).advance n) [r] [] :=
  ⟨s.regs.get_set_same r v, rfl, rfl, rfl, rfl, keepsRegsBut_of_set s rfl, fun _ _ => rfl, (keepsControl_iff _ _).2 rfl⟩

theorem keepsMemoryBut_writeByte (a : Word) (v : Byte) : KeepsMemoryBut s (s.writeByte a v) [a] :=
  fun b hb => s.readByte_writeByte_other a b v (by simpa using hb)

theorem writeByte_advance_writes (a : Word) (v : Byte) (n : Word) :
    ((s.writeByte a v).advance n).readByte a = v ∧ ((s.writeByte a v).advance n).pc = s.pc + n
      ∧ ((s.writeByte a v).advance n).sp = s.sp ∧ ((s.writeByte a v).advance n).flags = s.flags
      ∧ ((s.writeByte a v).advance n).draws = s.draws ∧ Frame s ((s.writeByte a v).advance n) [] [a] :=
  ⟨s.readByte_writeByte_same a v, rfl, rfl, rfl, rfl, fun _ _ => rfl, keepsMemoryBut_writeByte s a v,
    (keepsControl_iff _ _).2 rfl⟩

theorem writeWord_frame (a w : Word) : Frame s (s.writeWord a w) [] [a, a + 1] :=
  ⟨fun _ _ => rfl, keepsMemoryBut_writeWord s a w, (keepsControl_iff _ _).2 rfl⟩

/-! ## A register loaded with what it held (R251) -/

theorem Regs.set_get (g : Regs) (r : Reg) : g.set r (g.get r) = g := by cases r <;> rfl

theorem Regs.set_set_get (g : Regs) (r : Reg) (v : Byte) : (g.set r v).set r (g.get r) = g := by cases r <;> rfl

/-- A register other than H and L written leaves the address HL. -/
theorem Regs.hl_set_of_ne (g : Regs) {r : Reg} (v : Byte) (hh : r ≠ .h) (hl : r ≠ .l) : (g.set r v).hl = g.hl := by
  cases r
  case h => exact absurd rfl hh
  case l => exact absurd rfl hl
  all_goals rfl

/-- A register stored, changed, and loaded from the address it was stored at. -/
theorem setReg_readByte_stored (r : Reg) (n : Word) (v : Byte) {a b : Word} (hb : b = a) :
    ((((s.writeByte a (s.regs.get r)).advance n).setReg r v).setReg r
      ((((s.writeByte a (s.regs.get r)).advance n).setReg r v).readByte b)).regs = s.regs := by
  rw [hb, State.readByte_setReg, State.readByte_advance, State.readByte_writeByte_same]
  exact s.regs.set_set_get r v

end

/-! ## The statements -/

/-- Settles O55: the form is a write of the register with the value its source held. -/
theorem movAndMviIntoARegister : Obligations.MovAndMviIntoARegister := by
  unfold Obligations.MovAndMviIntoARegister
  refine fun s r src imm => ⟨mov_encodedAs (.reg r) src, mvi_encodedAs (.reg r) imm, fun i v len hform => ?_⟩
  have hexec : exec i s = .next ((s.setReg r v).advance len) := by
    simp only [List.mem_cons, Prod.mk.injEq, List.not_mem_nil, or_false] at hform
    obtain ⟨rfl, rfl, rfl⟩ | ⟨rfl, rfl, rfl⟩ := hform
    · exact exec_mov_reg s r src
    · rfl
  exact ⟨_, hexec, setReg_advance_writes s r v len⟩

/-- Settles O56: the form is a write of the byte at HL. -/
theorem movAndMviIntoMemory : Obligations.MovAndMviIntoMemory := by
  unfold Obligations.MovAndMviIntoMemory
  refine ⟨fun r => mov_encodedAs .mem (.reg r), mvi_encodedAs .mem, ?_⟩
  rintro s r imm v i len _ rfl hform
  have hexec : exec i s = .next ((s.writeByte s.regs.hl v).advance len) := by
    simp only [List.mem_cons, Prod.mk.injEq, List.not_mem_nil, or_false] at hform
    obtain ⟨rfl, rfl, rfl⟩ | ⟨rfl, rfl, rfl⟩ := hform
    · rfl
    · rfl
  exact ⟨_, hexec, writeByte_advance_writes s s.regs.hl v len⟩

/-- Settles O57: LDA and LDAX write A alone, LHLD the pair HL alone. -/
theorem loadsReadMemory : Obligations.LoadsReadMemory := by
  unfold Obligations.LoadsReadMemory
  refine ⟨fun b1 b2 => ⟨address_encodedAs b1 b2 (.lda, 0x3A) (by simp), address_encodedAs b1 b2 (.lhld, 0x2A) (by simp)⟩,
    index_encodedAs (.ldax .bc, 0x0A, .ldax) (by simp), index_encodedAs (.ldax .de, 0x1A, .ldax) (by simp),
    fun s addr a p i len hform => ?_, fun s addr => ?_⟩
  · have hexec : exec i s = .next ((s.setReg .a (s.readByte a)).advance len) := by
      simp only [List.mem_cons, Prod.mk.injEq, List.not_mem_nil, or_false] at hform
      obtain ⟨rfl, rfl, rfl⟩ | ⟨rfl, rfl, rfl⟩ := hform
      · rfl
      · exact exec_ldax s p
    exact ⟨_, hexec, setReg_advance_writes s .a (s.readByte a) len⟩
  · exact ⟨_, rfl, lo_cat16 _ _, hi_cat16 _ _, rfl, rfl, rfl, rfl, setPair_frame s .hl (s.readWord addr)⟩

/-- Settles O58: STA and STAX write one byte, SHLD one word, its low byte L. -/
theorem storesWriteMemory : Obligations.StoresWriteMemory := by
  unfold Obligations.StoresWriteMemory
  refine ⟨fun b1 b2 => ⟨address_encodedAs b1 b2 (.sta, 0x32) (by simp), address_encodedAs b1 b2 (.shld, 0x22) (by simp)⟩,
    index_encodedAs (.stax .bc, 0x02, .stax) (by simp), index_encodedAs (.stax .de, 0x12, .stax) (by simp),
    fun s addr a p i len hform => ?_, fun s addr => ?_⟩
  · have hexec : exec i s = .next ((s.writeByte a s.regs.a).advance len) := by
      simp only [List.mem_cons, Prod.mk.injEq, List.not_mem_nil, or_false] at hform
      obtain ⟨rfl, rfl, rfl⟩ | ⟨rfl, rfl, rfl⟩ := hform
      · rfl
      · exact exec_stax s p
    exact ⟨_, hexec, writeByte_advance_writes s a s.regs.a len⟩
  · have hlow := (s.readByte_writeWord_low addr s.regs.hl).trans (lo_cat16 _ _)
    have hhigh := (s.readByte_writeWord_high addr s.regs.hl).trans (hi_cat16 _ _)
    exact ⟨_, rfl, hlow, hhigh, rfl, rfl, rfl, rfl, writeWord_frame s addr s.regs.hl⟩

/-- Settles O29: the load reads the address the store wrote, which a change of the loaded register leaves the same;
MOV r,M reads HL, so H and L come back only when unchanged. -/
theorem loadUndoesStore : Obligations.LoadUndoesStore := by
  unfold Obligations.LoadUndoesStore
  refine ⟨?sta, ?shld, ?stax, ?mov⟩
  case sta =>
    rintro s _ a v ⟨⟩
    exact ⟨_, rfl, setReg_readByte_stored s .a 3 v rfl⟩
  case shld =>
    rintro s _ a h l ⟨⟩
    refine ⟨_, rfl, ?_⟩
    calc s.regs.setHL ((s.writeWord a s.regs.hl).readWord a)
      _ = s.regs.setHL s.regs.hl := by rw [State.readWord_writeWord]
      _ = s.regs := s.regs.setHL_hl
  case stax =>
    rintro s _ p v ⟨⟩
    exact ⟨_, rfl, setReg_readByte_stored s .a 1 v (by cases p <;> rfl)⟩
  case mov =>
    rintro s _ r v ⟨⟩
    refine ⟨fun hh hl => ⟨_, rfl, ?_⟩, _, rfl, ?_⟩
    · exact setReg_readByte_stored s r 1 v (s.regs.hl_set_of_ne v hh hl)
    · calc s.regs.set r ((s.writeByte s.regs.hl (s.regs.get r)).readByte s.regs.hl)
        _ = s.regs.set r (s.regs.get r) := by rw [State.readByte_writeByte_same]
        _ = s.regs := s.regs.set_get r

end Sys2Proof.Machine
end

section
/-! SUPPORT. Runs of any machine behind the host's interface: a run of several steps is its first step, then the rest;
and a run in two parts. -/

namespace Sys2Proof

section
variable {M : Host.Core} {s t u : M.State} {k : Nat}

theorem run_succ (k : Nat) (h : M.step s = .next t) : M.run (k + 1) s = M.run k t := by
  rw [Host.Core.run, h]

theorem run_one (s : M.State) : M.run 1 s = M.step s := by
  rw [Host.Core.run]
  cases M.step s <;> rfl

theorem exists_step_of_run_succ (h : M.run (k + 1) s = .next u) : ∃ t, M.step s = .next t ∧ M.run k t = .next u := by
  rw [Host.Core.run] at h
  cases ht : M.step s with
  | next t => exact ⟨t, rfl, by rwa [ht] at h⟩
  | fault r | refused r => rw [ht] at h; cases h

theorem run_add (h : M.run k s = .next t) (n : Nat) : M.run (k + n) s = M.run n t := by
  induction k generalizing s with
  | zero =>
    cases h
    rw [Nat.zero_add]
  | succ k ih =>
    obtain ⟨s₁, hstep, hrest⟩ := exists_step_of_run_succ h
    rw [Nat.add_right_comm, run_succ (k + n) hstep, ih hrest]

end

end Sys2Proof
end

section
/-! SUPPORT. Stall and stall table (70_reset_and_hazards.md R298, R300): the value an instruction step leaves, the steps
of a pending stall, and that nothing an instruction does or records reads either of the two. -/

namespace Sys2Proof.Machine

/-! ## The stall a step leaves, and the steps it takes (R298, R300) -/

/-- An instruction step leaves the table's value for its form (R298). -/
theorem step_stall_eq {s t : State} (hstall : s.stall = 0) (h : step s = .next t) :
    t.stall = stallOf s.params s.fetched.form ((s.fetched.instr.cond.map (conditionSeen s)).getD false) := by
  obtain ⟨after, -, rfl⟩ := step_instruction hstall h
  rw [State.retire_stall, State.takenBy_eq]

/-- A pending stall is that many steps that change nothing else (R300). -/
theorem run_stall {s : State} (hrun : s.halted = false) (n : Nat) :
    Host.Core.run Sys2Proof.core n { s with stall := n } = .next { s with stall := 0 } := by
  induction n with
  | zero => rfl
  | succ n ih =>
    have hstep : step { s with stall := n + 1 } = .next { s with stall := n } := step_stall hrun n.succ_pos
    exact (run_succ (M := Sys2Proof.core) n hstep).trans ih

/-- The step after the last one of a pending stall is an instruction step (R300). -/
theorem run_stall_succ {s : State} (hrun : s.halted = false) :
    Host.Core.run Sys2Proof.core (s.stall + 1) s = step { s with stall := 0 } :=
  (run_add (M := Sys2Proof.core) (run_stall hrun s.stall) 1).trans (run_one (M := Sys2Proof.core) _)

/-! ## The same state with another stall and another stall table -/

/-- The two fields that `State.withoutTiming` takes out, put in again. -/
def State.withTiming (s : State) (n : Nat) (rows : List StallRow) : State :=
  { s with stall := n, params := { s.params with stallRows := rows } }

/-- Two states alike but for stall and table: one is the other with its own two put in. -/
theorem State.eq_withTiming {s u : State} (h : s.withoutTiming = u.withoutTiming) :
    u = s.withTiming u.stall u.params.stallRows :=
  (congrArg (State.withTiming · u.stall u.params.stallRows) h).symm

section
variable (s : State) (n : Nat) (rows : List StallRow)

theorem State.jumpIf_withTiming (cc : Cond) (target : Word) :
    (s.withTiming n rows).jumpIf cc target = (s.jumpIf cc target).withTiming n rows := by
  have hholds : (s.withTiming n rows).holds cc = s.holds cc := rfl
  rw [State.jumpIf, State.jumpIf, hholds]
  split <;> rfl

theorem State.callIf_withTiming (cc : Cond) (target : Word) :
    (s.withTiming n rows).callIf cc target = (s.callIf cc target).withTiming n rows := by
  have hholds : (s.withTiming n rows).holds cc = s.holds cc := rfl
  rw [State.callIf, State.callIf, hholds]
  split <;> rfl

theorem State.returnIf_withTiming (cc : Cond) :
    (s.withTiming n rows).returnIf cc = (s.returnIf cc).withTiming n rows := by
  have hholds : (s.withTiming n rows).holds cc = s.holds cc := rfl
  rw [State.returnIf, State.returnIf, hholds]
  split <;> rfl

/-- No instruction reads the stall or its table: it carries both along. -/
theorem exec_withTiming {i : Instr} {t : State} (h : exec i s = .next t) :
    exec i (s.withTiming n rows) = .next (t.withTiming n rows) := by
  cases i
  all_goals cases h
  case jnz | jz | jnc | jc | jpo | jpe | jp | jm => exact congrArg Host.Outcome.next (s.jumpIf_withTiming n rows _ _)
  case cnz | cz | cnc | cc | cpo | cpe | cp | cm => exact congrArg Host.Outcome.next (s.callIf_withTiming n rows _ _)
  case rnz | rz | rnc | rc | rpo | rpe | rp | rm => exact congrArg Host.Outcome.next (s.returnIf_withTiming n rows _)
  case push p | pop p | lxi p _ | dad p | inx p | dcx p => cases p <;> rfl
  case mov d _ | mvi d _ | inr d | dcr d => cases d <;> rfl
  all_goals rfl

/-- What the step adds to the records (R110) reads neither; of the state it makes, the stall alone is the table's. -/
theorem State.retire_withTiming (d : DecodedInstruction) (after : State) :
    ((s.withTiming n rows).retire d (after.withTiming n rows)).withoutTiming = (s.retire d after).withoutTiming := rfl

end

/-- Whatever a state reaches by a step, one that differs in stall and table alone reaches by a run (R300): none where the
step counted a stall down, its own stall and the instruction step where the step ran an instruction. -/
theorem exists_run_of_step {s u s' : State} (hsu : s.withoutTiming = u.withoutTiming) (h : step s = .next s') :
    ∃ (k : Nat) (u' : State), Host.Core.run Sys2Proof.core k u = .next u' ∧ s'.withoutTiming = u'.withoutTiming := by
  obtain ⟨hrun, ⟨-, rfl⟩ | ⟨-, after, hexec, rfl⟩⟩ := step_cases h
  · exact ⟨0, u, rfl, hsu⟩
  · have hu := State.eq_withTiming hsu
    have hurun : u.halted = false := by rw [hu]; exact hrun
    have hu0 : { u with stall := 0 } = s.withTiming 0 u.params.stallRows := congrArg (fun v => { v with stall := 0 }) hu
    have hstep := step_of_exec (s := s.withTiming 0 u.params.stallRows) hrun rfl (exec_withTiming s _ _ hexec)
    exact ⟨u.stall + 1, _, (run_stall_succ hurun).trans ((congrArg step hu0).trans hstep),
      (s.retire_withTiming 0 u.params.stallRows s.fetched after).symm⟩

theorem exists_run_of_run {s u s' : State} {k : Nat} (hsu : s.withoutTiming = u.withoutTiming)
    (h : Host.Core.run Sys2Proof.core k s = .next s') :
    ∃ (k' : Nat) (u' : State), Host.Core.run Sys2Proof.core k' u = .next u' ∧ s'.withoutTiming = u'.withoutTiming := by
  induction k generalizing s u with
  | zero =>
    cases h
    exact ⟨0, u, rfl, hsu⟩
  | succ k ih =>
    obtain ⟨t, hstep, hrest⟩ := exists_step_of_run_succ (M := Sys2Proof.core) h
    obtain ⟨k₁, v, hv, htv⟩ := exists_run_of_step hsu hstep
    obtain ⟨k₂, u', hu', hs'⟩ := ih htv hrest
    exact ⟨k₁ + k₂, u', (run_add (M := Sys2Proof.core) hv k₂).trans hu', hs'⟩

/-- Settles O17, by induction on the steps of the one run, each of which the other answers with a run of its own. -/
theorem stallHasNoArchitecturalEffect : Obligations.StallHasNoArchitecturalEffect := by
  unfold Obligations.StallHasNoArchitecturalEffect
  refine ⟨fun s u hsu k s' h => exists_run_of_run hsu h, fun s hrun => run_stall hrun s.stall,
    fun s t _ hstall h hrun => ?_⟩
  rw [← step_stall_eq hstall h]
  exact run_stall_succ hrun

/-! ## The stall table (R298) -/

theorem stallOf_default {p : Params} (h : p.stallRows = []) (f : Form) (taken : Bool) :
    stallOf p f taken = defaultStall taken f := by simp [stallOf, h]

/-- A table written out for a form and outcome, in rows that hold its values, gives its value there. -/
theorem stallOf_of_rows {p : Params} {table : Form → Bool → Nat} {f : Form} {taken : Bool}
    (hrows : ∀ r ∈ p.stallRows, r.stall = table r.form r.taken)
    (hlisted : ∃ r ∈ p.stallRows, r.form = f ∧ r.taken = taken) : stallOf p f taken = table f taken := by
  unfold stallOf
  cases hfind : p.stallRows.find? (fun r => r.form == f && r.taken == taken) with
  | some r =>
    obtain ⟨rfl, rfl⟩ : r.form = f ∧ r.taken = taken := by simpa using List.find?_some hfind
    exact hrows r (List.mem_of_find?_eq_some hfind)
  | none =>
    obtain ⟨r, hr, hkey⟩ := hlisted
    exact absurd hkey (by simpa using List.find?_eq_none.1 hfind r hr)

theorem exists_list_of_forms : ∃ forms : List Form, ∀ f, f ∈ forms :=
  ⟨(List.range 73).map Form.ofNat, fun f =>
    List.mem_map.2 ⟨f.ctorIdx, List.mem_range.2 (by cases f <;> decide), Form.ofNat_ctorIdx f⟩⟩

/-- Any function of form and outcome is a table: its rows are its values, written out for every form and outcome. -/
theorem exists_stallRows (p : Params) (table : Form → Bool → Nat) : ∃ rows : List StallRow,
    ∀ (f : Form) (taken : Bool), stallOf { p with stallRows := rows } f taken = table f taken := by
  obtain ⟨forms, hforms⟩ := exists_list_of_forms
  refine ⟨(forms.product [false, true]).map fun key => ⟨key.1, key.2, table key.1 key.2⟩, fun f taken => ?_⟩
  apply stallOf_of_rows
  · intro r hr
    obtain ⟨key, -, rfl⟩ := List.mem_map.1 hr
    rfl
  · exact ⟨_, List.mem_map_of_mem (List.pair_mem_product.2 ⟨hforms f, by simp⟩), rfl, rfl⟩

/-- Settles O16: the default table read form by form, the rows of any other, and the stall an instruction step leaves. -/
theorem stallTableIsTheDefaultOrAnyOther : Obligations.StallTableIsTheDefaultOrAnyOther := by
  unfold Obligations.StallTableIsTheDefaultOrAnyOther
  refine ⟨fun p f taken hrows => ?_, exists_stallRows, fun s t _ hstall h => step_stall_eq hstall h⟩
  rw [stallOf_default hrows]
  refine ⟨?_, ?_, ?_, ?_, ?_, ?_, ?_⟩
  case refine_6 | refine_7 =>
    rintro rfl
    rfl
  all_goals -- the forms of one row of the default table
    intro hf
    revert taken
    revert f
    decide

end Sys2Proof.Machine
end

section
/-! SUPPORT. The trace record of an instruction step (60_exceptions.md R271, R275): its diagnostic and its effective
address. -/

namespace Sys2Proof.Machine

section
variable (s : State)

/-! ## The diagnostic (R271) -/

theorem State.fetched_form_unrecognized_iff : s.fetched.form = .unrecognized ↔ s.fetched.stage = .unmatched :=
  decode_form_unrecognized_iff _ _ _ _

theorem State.fetched_diag_unrecognized (h : s.fetched.form = .unrecognized) :
    (s.traceRecord s.fetched).diag = some { opcode := s.readByte s.pc, pc := s.pc } := by
  have hop : s.fetched.opcode = s.readByte s.pc := decode_opcode _ _ _ _
  rw [← hop]
  exact State.diagnosticOf_unmatched (s.fetched_form_unrecognized_iff.1 h)

theorem State.fetched_diag_recognized (h : s.fetched.form ≠ .unrecognized) :
    (s.traceRecord s.fetched).diag = none :=
  State.diagnosticOf_matched (mt s.fetched_form_unrecognized_iff.2 h)

theorem step_diags {t : State} (hstall : s.stall = 0) (h : step s = .next t) :
    t.diags = s.diags ++ (s.traceRecord s.fetched).diag.toList := by
  obtain ⟨after, hexec, rfl⟩ := step_instruction hstall h
  rw [State.retire_diags]
  exact exec_fetched_diags hexec

@[simp] theorem State.traceRecord_ea (d : DecodedInstruction) : (s.traceRecord d).ea = s.effectiveAddr d.instr := rfl
@[simp] theorem State.traceRecord_taken (d : DecodedInstruction) : (s.traceRecord d).taken = s.takenBy d.instr := rfl

end

/-- Settles O19: the record an instruction step appends is that of the instruction it fetched, whose effective address is
by the instruction HL of an `M` operand, an index pair, its own address, the SP of a pop or a push, or none (R275). -/
theorem traceRecordOfAnInstructionStep : Obligations.TraceRecordOfAnInstructionStep := by
  unfold Obligations.TraceRecordOfAnInstructionStep
  intro s hrun hstall d
  have hd : d = s.fetched := rfl
  clear_value d
  subst hd
  obtain ⟨t, hstep⟩ := exists_step hrun hstall
  refine ⟨t, s.traceRecord s.fetched, hstep, step_trace hstall hstep, step_diags s hstall hstep, rfl, rfl,
    State.fetchesOf_value _ (decode_length_le _ _ _ _), s.takenBy_eq _, s.fetched_diag_unrecognized,
    s.fetched_diag_recognized, ?_⟩
  rw [s.fetched_form, s.traceRecord_ea, s.traceRecord_taken]
  generalize s.fetched.instr = i
  cases i
  case add o | adc o | sub o | sbb o | ana o | xra o | ora o | cmp o | inr o | dcr o | mvi o _ =>
    cases o <;> simp [State.effectiveAddr, Instr.form, State.takenBy, Instr.cond, State.operandAddr, Regs.hl]
  case mov d o =>
    cases d <;> cases o <;>
      simp [State.effectiveAddr, Instr.form, State.takenBy, Instr.cond, State.operandAddr, Regs.hl]
  case push p | pop p => cases p <;> simp [State.effectiveAddr, Instr.form, State.takenBy, Instr.cond]
  case ldax | stax => simp [State.effectiveAddr, Instr.form, State.takenBy, Instr.cond, State.indexAddr_eq]
  case cnz | cz | cnc | cc | cpo | cpe | cp | cm | rnz | rz | rnc | rc | rpo | rpe | rp | rm =>
    simp only [State.effectiveAddr, State.takenBy_eq, Instr.cond, Option.map_some]
    generalize conditionSeen s _ = taken
    cases taken <;> simp [Instr.form]
  all_goals -- one list or one equation names the form, or no list does
    simp [State.effectiveAddr, Instr.form, State.takenBy, Instr.cond]

end Sys2Proof.Machine
end

section
/-! SUPPORT. Reset and the loader (70_reset_and_hazards.md R290 to R294). -/

namespace Sys2Proof.Machine

/-- The loader (R293): below its first address memory is what it was, and from there on it is the buffer's bytes, as far
as the buffer goes. -/
theorem Memory.read_loadFrom (bs : List Byte) (m : Memory) (a b : Nat) (hb : b < 65536) :
    (m.loadFrom a bs).read b = if b < a then m.read b else (bs[b - a]?).getD (m.read b) := by
  induction bs generalizing m a with
  | nil => simp [Memory.loadFrom]
  | cons v rest ih =>
    by_cases ha : a < 65536
    · rw [Memory.loadFrom, if_pos ha, ih]
      rcases Nat.lt_trichotomy b a with hlt | rfl | hgt
      · rw [if_pos (by omega), if_pos hlt, Memory.read_write_other _ _ _ _ (by omega)]
      · simp
      · rw [if_neg (by omega), if_neg (by omega), Memory.read_write_other _ _ _ _ (by omega),
          show b - a = b - (a + 1) + 1 by omega, List.getElem?_cons_succ]
    · rw [Memory.loadFrom, if_neg ha, if_pos (by omega)]

/-- Settles O9, from what the loader leaves at an address from 0 on. -/
theorem loaderPlacesTheBuffer : Obligations.LoaderPlacesTheBuffer := by
  unfold Obligations.LoaderPlacesTheBuffer
  exact fun s buffer a => ⟨Memory.read_loadFrom buffer s.mem 0 a.toNat a.isLt, rfl, Memory.loadFrom_wf buffer s.mem 0⟩

/-- The invariant of a run at its start: nothing is recorded yet (R290). -/
theorem State.Inv.powerOn (params : Params) (initRegs : Regs) (initFlags : Flags) {initMem : Memory}
    (h : initMem.wf) : (State.powerOn params initRegs initFlags initMem).Inv where
  memory := h
  diags := rfl
  records := fun _ hr => nomatch hr
  fetches := rfl
  ended := fun hend => nomatch hend
  stalls := fun _ => Nat.zero_le 4

/-- Settles O10: State.reset is such a state, its memory without a cell. -/
theorem invariantHoldsAtReset : Obligations.InvariantHoldsAtReset := by
  unfold Obligations.InvariantHoldsAtReset
  exact ⟨.powerOn _ _ _ ⟨.nil, fun _ hc => nomatch hc⟩, fun params initRegs initFlags _ h =>
    .powerOn params initRegs initFlags h⟩

/-- Settles O8: each field as `State.powerOn` gives it. -/
theorem powerOnSetsEveryField : Obligations.PowerOnSetsEveryField := by
  unfold Obligations.PowerOnSetsEveryField
  exact fun _ _ _ _ => ⟨rfl, rfl, rfl, rfl, rfl, rfl, rfl, fun _ => rfl, rfl, rfl, rfl, rfl, rfl, rfl, rfl⟩

end Sys2Proof.Machine
end

section
/-! SUPPORT. Ports (48_io.md R260 to R262): the encodings of IN and OUT, and the event each emits. -/

namespace Sys2Proof.Machine

/-- IN and OUT are instructions only with `DECODE_EXTRA` (30_encoding.md R85). -/
theorem port_encodedAs (port : Byte) :
    ∀ row ∈ ([(.inp, 0xDB), (.out, 0xD3)] : List ((Byte → Instr) × Byte)),
      EncodedAs (row.1 port) [row.2, port] .exact := by
  intro row hrow
  fin_cases hrow <;>
    · refine .of_stage rfl fun x hw => ?_
      obtain rfl : x = true := hw
      rfl

theorem State.portWrites_emitIo_write (s : State) (port value : Byte) :
    (s.emitIo (.write port value)).portWrites = s.portWrites ++ [(port, value)] := by
  simp [State.portWrites]

/-- Settles O59: IN takes a draw, emits the read of its answer, and writes that answer into A. -/
theorem inReadsThePort : Obligations.InReadsThePort := by
  unfold Obligations.InReadsThePort
  exact fun s port => ⟨port_encodedAs port (.inp, 0xDB) (by simp), unrecognizedWithoutExtra_of_mem (by decide),
    _, rfl, rfl, rfl, rfl, rfl, rfl, rfl, keepsRegsBut_of_set s rfl, fun _ _ => rfl, (keepsControl_iff _ _).2 rfl⟩

/-- Settles O60: OUT emits the write and moves pc. -/
theorem outEmitsThePortWrite : Obligations.OutEmitsThePortWrite := by
  unfold Obligations.OutEmitsThePortWrite
  exact fun s port => ⟨port_encodedAs port (.out, 0xD3) (by simp), unrecognizedWithoutExtra_of_mem (by decide),
    _, rfl, rfl, s.portWrites_emitIo_write port s.regs.a, rfl, rfl, rfl, rfl, .of_unwritten rfl rfl rfl⟩

end Sys2Proof.Machine
end
